-- ==== Sys2Proof/Config.lean ====
section
/-! DEFINITION. The figures that the DT40's capacities table fixes (00_scope.md, "Capacities and limits"). The spec
leaves no value of the part open, so there is no free value here. -/

namespace Sys2Proof.Config

/-- Slots of the luminaire table (R1). -/
def slotCount : Nat := 4096

/-- Entries of the class table (R4) and of the segment table (R13). -/
def classCount : Nat := 16

/-- Segments of the part (R13). -/
def segmentCount : Nat := 16

/-- Entries of the zone table (R8). -/
def zoneCount : Nat := 256

/-- Calendar profiles (R34). -/
def profileCount : Nat := 32

/-- Test channels (R107). -/
def channelCount : Nat := 32

/-- Places of a record's neighbour list (R17). -/
def neighbourLimit : Nat := 6

/-- Entries of the exception list (R36). -/
def exceptionLimit : Nat := 64

/-- Entries of a candidate list (R98). -/
def candidateLimit : Nat := 16

/-- Reports the report queue holds (R139). -/
def reportLimit : Nat := 64

/-- The last minute of the campus clock (R26, R45). -/
def maxMinute : Nat := 4294967295

/-- Minutes of a day (R33, R46). -/
def dayMinutes : Nat := 1440

/-- The index that stands for "no luminaire" (R16, R173). -/
def noLuminaire : Nat := 65535

end Sys2Proof.Config
end

