-- ==== Sys2Proof/Word.lean ====
section
/-! DEFINITION. The words that cross the DT40's two ports: bytes of the host port (R166) and the nine-bit bytes of
the segment link (R134). Quantities the part holds (indices, minutes, seconds, counts) are natural numbers; bit
vectors stand only where the manual lays out bits. -/

namespace Sys2Proof

/-- One byte of the host port, most significant bit first (R166). -/
abbrev Byte := BitVec 8

/-- A two-byte field of a transaction (10.5). -/
abbrev Half := BitVec 16

/-- A four-byte field of a transaction, such as a minute (10.5). -/
abbrev Word := BitVec 32

/-- A map of the 16 segments, segment `n` at bit `n` (R133, 10.4). -/
abbrev SegMap := BitVec 16

/-- The 336 slots of one profile, slot 0 the most significant bit, as the 42 bytes of a transfer lay them out (10.4). -/
abbrev Slots := BitVec 336

/-- One byte on the segment link with its check bit (R134). -/
structure LinkByte where
  data : Byte
  check : Bool
  deriving DecidableEq, Repr

/-- A queue word of the link: 24 data bits in three bytes (chapter 7.2). -/
structure QueueWord where
  b0 : LinkByte
  b1 : LinkByte
  b2 : LinkByte
  deriving DecidableEq, Repr

/-- A mailbox word of the link: 16 data bits in two bytes (chapter 7.2). -/
structure BoxWord where
  b0 : LinkByte
  b1 : LinkByte
  deriving DecidableEq, Repr

end Sys2Proof
end

