-- ==== Sys2Proof/Syntax.lean ====
section
/-! DEFINITION. The commands of the DT40: one constructor for each row of spec/opcode_table.json, with the operands the
command table carries (10.5), each of the width it is carried in (R176), or the word an agent of the link writes. -/

namespace Sys2Proof

/-- How a transaction ended at the rise of select (R166). -/
inductive TransactionEnd where
  /-- After its last complete byte. -/
  | whole
  /-- In the middle of a byte: clocks that complete no byte came last. -/
  | midByte
  /-- A part reset taken while select was low has abandoned it. -/
  | abandoned
  deriving DecidableEq, Repr

/-- A command: one whole, indivisible step of the part (95_what_each_step_holds.md). -/
inductive Instr where
  /-- ENROL (R18, R19): the execution of the action, with its 19 argument bytes. -/
  | enrol (slot : Half) (segment address zone cls count : Byte) (places : List Half)
  /-- AMEND (R20 to R23): selection bit 0 LOCATION, 1 ZONE, 2 CLASS, 3 NEIGHBOURS. -/
  | amend (slot : Half) (selection segment address zone cls count : Byte) (places : List Half)
  /-- RETIRE (R25). -/
  | retire (slot : Half)
  /-- WRITE CLASS (R5): the nine figures in the order of R4. -/
  | writeClass (cls : Byte) (functionLength ratedDuration functionInterval durationInterval : Half)
      (earlyWindow grace rechargeFactor : Byte) (rechargeMin rechargeMax : Half)
  /-- CLEAR CLASS (R6). -/
  | clearClass (cls : Byte)
  /-- WRITE ZONE (R10). -/
  | writeZone (zone profile percent : Byte)
  /-- SET ZONE HOLD (R11): flag 0 clear, any other value set. -/
  | setZoneHold (zone flag : Byte)
  /-- CLEAR ZONE (R12). -/
  | clearZone (zone : Byte)
  /-- WRITE SEGMENT (R14): enabled 0 clear, any other value set. -/
  | writeSegment (segment enabled cap : Byte)
  /-- REQUEST TEST (R80). -/
  | requestTest (slot : Half) (kind : Byte)
  /-- CANCEL REQUEST (R81). -/
  | cancelRequest (slot : Half)
  /-- ACCEPT REPAIR (R82). -/
  | acceptRepair (slot : Half)
  /-- REVIVE (R83). -/
  | revive (slot : Half)
  /-- ABORT TEST (R122). -/
  | abortTest (slot : Half)
  /-- SET CLOCK (R29). -/
  | setClock (minute : Word)
  /-- TRIM CLOCK (R30): the amount as a signed byte. -/
  | trimClock (amount : Byte)
  /-- WRITE PROFILE (R35): the 336 slot values. -/
  | writeProfile (profile : Byte) (slots : Slots)
  /-- ADD EXCEPTION (R37). -/
  | addException (start stop : Word) (scope index effect : Byte)
  /-- DROP EXCEPTION (R38). -/
  | dropException (start stop : Word) (scope index effect : Byte)
  /-- SET SWEEP (R86). -/
  | setSweep (mode scope zone : Byte)
  /-- START SWEEP (R87). -/
  | startSweep
  /-- SET TIMING (R108). -/
  | setTiming (seconds : Half)
  /-- CONFIGURE LINK (R130). -/
  | configureLink (sense threshold loopback : Byte)
  /-- HALT SEGMENTS (R153): segment `n` at bit `n`. -/
  | haltSegments (segments : SegMap)
  /-- The programme START (R159). -/
  | start
  /-- SUSPEND (R160): flag 0 clear, any other value set. -/
  | suspend (flag : Byte) (minute : Word)
  /-- RESUME (R161). -/
  | resume
  /-- HALT (R163). -/
  | halt
  /-- SET TURNAROUND (R171). -/
  | setTurnaround (bytes : Byte)
  /-- SET ATTENTION LEVELS (R182): eight levels, cause 1 first. -/
  | setAttentionLevels (levels : List Byte)
  /-- RESET PART (R177), at its accept. -/
  | resetPart
  /-- Power-on or the reset pin (R177). -/
  | partReset
  /-- The rise of select that ends a transaction (R166, R167): its complete bytes, command code first, and how it
  ended. -/
  | accept (bytes : List Byte) (ending : TransactionEnd)
  /-- The take of a READ STATUS, its first sampling (R172). -/
  | readStatus
  /-- A further repetition of the four status bytes (R172). -/
  | statusRepetition
  /-- The take of a READ ATTENTION (R181). -/
  | readAttention
  /-- The take of a READ CLOCK (R32). -/
  | readClock
  /-- The take of a READ RECORD and its first image (R173). -/
  | readRecord (start : Half)
  /-- The take of a WALK ZONE and its first image (R174). -/
  | walkZone (zone : Byte) (start : Half)
  /-- The take of a WALK STATE and its first image (R174). -/
  | walkState (code : Byte) (start : Half)
  /-- The sampling of a walk's next image (R173, R174). -/
  | walkNextImage
  /-- The rise of select that ends a walk (R173). -/
  | walkEnd
  /-- FIND ADDRESS (R16). -/
  | findAddress (segment address : Byte)
  /-- READ CLASS (R175). -/
  | readClass (cls : Byte)
  /-- READ ZONE (R175). -/
  | readZone (zone : Byte)
  /-- READ SEGMENT (R175). -/
  | readSegment (segment : Byte)
  /-- READ PROFILE (R41). -/
  | readProfile (profile : Byte)
  /-- READ EXCEPTIONS (R41). -/
  | readExceptions
  /-- READ CHANNELS (R109). -/
  | readChannels
  /-- READ CANDIDATES (R99). -/
  | readCandidates
  /-- A second tick of the reference oscillator (R27, R112, R138). -/
  | secondTick
  /-- The run timer of a channel expires (R113). -/
  | runExpiry (channel : Nat)
  /-- The answer timer of a channel expires (R114). -/
  | answerExpiry (channel : Nat)
  /-- The stall of the dispatch queue's head (R138). -/
  | stall
  /-- A visit of a pass (R89). -/
  | visit
  /-- The completion of a pass (R91). -/
  | passCompletion
  /-- A trial of the dispatch phase (R100). -/
  | trial
  /-- The concentrator takes the head order (R136). -/
  | orderTake
  /-- In loopback the link takes the head order (R144). -/
  | loopbackTake
  /-- The concentrator writes a report (R139). -/
  | reportWrite (word : QueueWord)
  /-- The channel block takes the head report (R140). -/
  | reportTake
  /-- The concentrator writes a mains word (R143). -/
  | mainsWordWrite (word : BoxWord)
  /-- The mains and halt unit takes the mains word (R147). -/
  | mainsWordTake
  /-- The concentrator, or the link in loopback, takes the halt word (R155). -/
  | haltTake
  deriving DecidableEq, Repr

end Sys2Proof
end

