-- ==== Sys2Proof/WellFormed.lean ====
section
/-! DEFINITION. Which commands the ports can spell. Field widths are fixed by the operand types (R176); what is left to
check is how many places, levels and channels there are. `exec` is total on every term; these checks say which terms
stand for something an agent can send. -/

namespace Sys2Proof

/-- A command that an agent can send: six neighbour places (R18), eight levels (R182), a channel 0..31 (R107). -/
def Instr.wellFormed : Instr → Bool
  | .enrol _ _ _ _ _ _ places => places.length == Config.neighbourLimit
  | .amend _ _ _ _ _ _ _ places => places.length == Config.neighbourLimit
  | .setAttentionLevels levels => levels.length == 8
  | .runExpiry channel => decide (channel < Config.channelCount)
  | .answerExpiry channel => decide (channel < Config.channelCount)
  | _ => true

/-- The commands that are the execution of a host action (the action codes of 10.5, RESET PART included). -/
def Instr.isAction : Instr → Bool
  | .enrol .. | .amend .. | .retire .. | .writeClass .. | .clearClass .. | .writeZone .. | .setZoneHold ..
  | .clearZone .. | .writeSegment .. | .requestTest .. | .cancelRequest .. | .acceptRepair .. | .revive ..
  | .abortTest .. | .setClock .. | .trimClock .. | .writeProfile .. | .addException .. | .dropException ..
  | .setSweep .. | .startSweep | .setTiming .. | .configureLink .. | .haltSegments .. | .start | .suspend ..
  | .resume | .halt | .setTurnaround .. | .setAttentionLevels .. | .resetPart => true
  | _ => false

end Sys2Proof
end

