-- ==== Sys2Proof/Decode.lean ====
section
/-! DEFINITION. The host port's transaction decoder: the command table of 10.5 (which code is which command, how many
argument bytes it has, what each byte is), with the encoder of actions beside it; and the words of the segment link
(10.4). The opcode table gives no row any bits, so `decodeTableWord` reads none. -/

namespace Sys2Proof

/-- The command that a word of the opcode table spells: the table gives bits to no row. -/
def decodeTableWord (_nbits _w : Nat) : Option Instr := none

/-! ### Fields of a transaction, most significant byte first (10.4, 10.5) -/

/-- A two-byte field. -/
def halfOf (hi lo : Byte) : Half := hi ++ lo

/-- A four-byte field. -/
def wordOf (a b c d : Byte) : Word := halfOf a b ++ halfOf c d

/-- The bytes of a two-byte field. -/
def halfBytes (h : Half) : List Byte := [h.extractLsb' 8 8, h.extractLsb' 0 8]

/-- The bytes of a four-byte field. -/
def wordBytes (w : Word) : List Byte :=
  [w.extractLsb' 24 8, w.extractLsb' 16 8, w.extractLsb' 8 8, w.extractLsb' 0 8]

/-- The number that a sequence of bytes spells, most significant byte first. -/
def bytesValue (l : List Byte) : Nat := l.foldl (fun acc b => acc * 256 + b.toNat) 0

/-- The 336 slots that 42 slot bytes carry, slot 0 at bit 7 of the first byte (10.4, READ PROFILE). -/
def slotsOf (l : List Byte) : Slots := BitVec.ofNat 336 (bytesValue l)

/-- The 42 slot bytes of a profile (10.4, READ PROFILE). -/
def slotsBytes (v : Slots) : List Byte := (List.range 42).map fun n => v.extractLsb' (8 * (41 - n)) 8

/-- A map of the segments from its two bytes, segments 0..7 in the first (R133). -/
def segMapOf (b0 b1 : Byte) : SegMap := b1 ++ b0

/-- The two bytes of a map of the segments (R133). -/
def segMapBytes (m : SegMap) : List Byte := [m.extractLsb' 0 8, m.extractLsb' 8 8]

/-! ### The command table (10.5) -/

/-- What a command code makes of its transaction (R166). -/
inductive CodeClass where
  /-- An action with its argument count. -/
  | action (count : Nat)
  /-- A read with its argument count. -/
  | read (count : Nat)
  /-- A code in neither column of the table. -/
  | undefined
  deriving DecidableEq, Repr

/-- The command table's classes and argument counts (10.5). -/
def codeClass (code : Byte) : CodeClass :=
  match code.toNat with
  | 0x01 => .action 19
  | 0x02 => .action 20
  | 0x03 => .action 2
  | 0x04 => .action 16
  | 0x05 => .action 1
  | 0x06 => .action 3
  | 0x07 => .action 2
  | 0x08 => .action 1
  | 0x09 => .action 3
  | 0x0A => .action 3
  | 0x0B => .action 2
  | 0x0C => .action 2
  | 0x0D => .action 2
  | 0x0E => .action 2
  | 0x10 => .action 4
  | 0x11 => .action 1
  | 0x12 => .action 43
  | 0x13 => .action 11
  | 0x14 => .action 11
  | 0x18 => .action 3
  | 0x19 => .action 0
  | 0x1C => .action 2
  | 0x1D => .action 3
  | 0x1E => .action 2
  | 0x20 => .action 0
  | 0x21 => .action 5
  | 0x22 => .action 0
  | 0x23 => .action 0
  | 0x28 => .action 1
  | 0x29 => .action 8
  | 0x2F => .action 0
  | 0x80 => .read 0
  | 0x81 => .read 0
  | 0x82 => .read 0
  | 0x84 => .read 2
  | 0x85 => .read 3
  | 0x86 => .read 3
  | 0x87 => .read 2
  | 0x88 => .read 1
  | 0x89 => .read 1
  | 0x8A => .read 1
  | 0x8B => .read 1
  | 0x8C => .read 0
  | 0x8D => .read 0
  | 0x8E => .read 0
  | _ => .undefined

/-- The action that a code and its argument bytes spell (10.5); none where the bytes are not of the action's length or
the code is no action's. -/
def decodeAction (code : Byte) (args : List Byte) : Option Instr :=
  match code.toNat, args with
  | 0x01, [s1, s0, g, a, z, c, n, p1, p0, q1, q0, r1, r0, t1, t0, u1, u0, v1, v0] =>
    some (.enrol (halfOf s1 s0) g a z c n
      [halfOf p1 p0, halfOf q1 q0, halfOf r1 r0, halfOf t1 t0, halfOf u1 u0, halfOf v1 v0])
  | 0x02, [s1, s0, sel, g, a, z, c, n, p1, p0, q1, q0, r1, r0, t1, t0, u1, u0, v1, v0] =>
    some (.amend (halfOf s1 s0) sel g a z c n
      [halfOf p1 p0, halfOf q1 q0, halfOf r1 r0, halfOf t1 t0, halfOf u1 u0, halfOf v1 v0])
  | 0x03, [s1, s0] => some (.retire (halfOf s1 s0))
  | 0x04, [c, f1, f0, d1, d0, i1, i0, j1, j0, e, g, k, m1, m0, x1, x0] =>
    some (.writeClass c (halfOf f1 f0) (halfOf d1 d0) (halfOf i1 i0) (halfOf j1 j0) e g k (halfOf m1 m0) (halfOf x1 x0))
  | 0x05, [c] => some (.clearClass c)
  | 0x06, [z, p, c] => some (.writeZone z p c)
  | 0x07, [z, f] => some (.setZoneHold z f)
  | 0x08, [z] => some (.clearZone z)
  | 0x09, [g, e, c] => some (.writeSegment g e c)
  | 0x0A, [s1, s0, k] => some (.requestTest (halfOf s1 s0) k)
  | 0x0B, [s1, s0] => some (.cancelRequest (halfOf s1 s0))
  | 0x0C, [s1, s0] => some (.acceptRepair (halfOf s1 s0))
  | 0x0D, [s1, s0] => some (.revive (halfOf s1 s0))
  | 0x0E, [s1, s0] => some (.abortTest (halfOf s1 s0))
  | 0x10, [a, b, c, d] => some (.setClock (wordOf a b c d))
  | 0x11, [a] => some (.trimClock a)
  | 0x12, p :: slots => if slots.length = 42 then some (.writeProfile p (slotsOf slots)) else none
  | 0x13, [a, b, c, d, e, f, g, h, sc, ix, ef] =>
    some (.addException (wordOf a b c d) (wordOf e f g h) sc ix ef)
  | 0x14, [a, b, c, d, e, f, g, h, sc, ix, ef] =>
    some (.dropException (wordOf a b c d) (wordOf e f g h) sc ix ef)
  | 0x18, [m, sc, z] => some (.setSweep m sc z)
  | 0x19, [] => some .startSweep
  | 0x1C, [a1, a0] => some (.setTiming (halfOf a1 a0))
  | 0x1D, [c, t, l] => some (.configureLink c t l)
  | 0x1E, [b0, b1] => some (.haltSegments (segMapOf b0 b1))
  | 0x20, [] => some .start
  | 0x21, [f, a, b, c, d] => some (.suspend f (wordOf a b c d))
  | 0x22, [] => some .resume
  | 0x23, [] => some .halt
  | 0x28, [t] => some (.setTurnaround t)
  | 0x29, levels => if levels.length = 8 then some (.setAttentionLevels levels) else none
  | 0x2F, [] => some .resetPart
  | _, _ => none

/-- The read that a code and its argument bytes spell (10.5). Bytes sent after a read's arguments are ignored (R166). -/
def decodeRead (code : Byte) (bytes : List Byte) : Option Instr :=
  match code.toNat, bytes with
  | 0x80, _ => some .readStatus
  | 0x81, _ => some .readAttention
  | 0x82, _ => some .readClock
  | 0x84, s1 :: s0 :: _ => some (.readRecord (halfOf s1 s0))
  | 0x85, z :: s1 :: s0 :: _ => some (.walkZone z (halfOf s1 s0))
  | 0x86, c :: s1 :: s0 :: _ => some (.walkState c (halfOf s1 s0))
  | 0x87, g :: a :: _ => some (.findAddress g a)
  | 0x88, c :: _ => some (.readClass c)
  | 0x89, z :: _ => some (.readZone z)
  | 0x8A, g :: _ => some (.readSegment g)
  | 0x8B, p :: _ => some (.readProfile p)
  | 0x8C, _ => some .readExceptions
  | 0x8D, _ => some .readChannels
  | 0x8E, _ => some .readCandidates
  | _, _ => none

/-- The bytes of neighbour places. -/
def placesBytes (places : List Half) : List Byte := places.flatMap halfBytes

/-- The transaction of an action, command code first (10.5); none for a command that is no action. -/
def encodeAction : Instr → Option (List Byte)
  | .enrol s g a z c n ps => some (0x01#8 :: halfBytes s ++ [g, a, z, c, n] ++ placesBytes ps)
  | .amend s sel g a z c n ps => some (0x02#8 :: halfBytes s ++ [sel, g, a, z, c, n] ++ placesBytes ps)
  | .retire s => some (0x03#8 :: halfBytes s)
  | .writeClass c f d i j e g k m x =>
    some (0x04#8 :: c :: halfBytes f ++ halfBytes d ++ halfBytes i ++ halfBytes j ++ [e, g, k]
      ++ halfBytes m ++ halfBytes x)
  | .clearClass c => some [0x05#8, c]
  | .writeZone z p c => some [0x06#8, z, p, c]
  | .setZoneHold z f => some [0x07#8, z, f]
  | .clearZone z => some [0x08#8, z]
  | .writeSegment g e c => some [0x09#8, g, e, c]
  | .requestTest s k => some (0x0A#8 :: halfBytes s ++ [k])
  | .cancelRequest s => some (0x0B#8 :: halfBytes s)
  | .acceptRepair s => some (0x0C#8 :: halfBytes s)
  | .revive s => some (0x0D#8 :: halfBytes s)
  | .abortTest s => some (0x0E#8 :: halfBytes s)
  | .setClock m => some (0x10#8 :: wordBytes m)
  | .trimClock a => some [0x11#8, a]
  | .writeProfile p v => some (0x12#8 :: p :: slotsBytes v)
  | .addException a b sc ix ef => some (0x13#8 :: wordBytes a ++ wordBytes b ++ [sc, ix, ef])
  | .dropException a b sc ix ef => some (0x14#8 :: wordBytes a ++ wordBytes b ++ [sc, ix, ef])
  | .setSweep m sc z => some [0x18#8, m, sc, z]
  | .startSweep => some [0x19#8]
  | .setTiming a => some (0x1C#8 :: halfBytes a)
  | .configureLink c t l => some [0x1D#8, c, t, l]
  | .haltSegments m => some (0x1E#8 :: segMapBytes m)
  | .start => some [0x20#8]
  | .suspend f m => some (0x21#8 :: f :: wordBytes m)
  | .resume => some [0x22#8]
  | .halt => some [0x23#8]
  | .setTurnaround t => some [0x28#8, t]
  | .setAttentionLevels ls => some (0x29#8 :: ls)
  | .resetPart => some [0x2F#8]
  | _ => none

end Sys2Proof
end

