-- ==== Sys2Proof/Machine/Table.lean ====
section
/-! DEFINITION. A table of the part, held sparsely: the entries that differ from what the table holds at part reset, keys
strictly rising. Equal tables are then equal data, and a part reset table is the empty list. -/

namespace Sys2Proof.Machine

/-- A sparse table, keyed by index. -/
abbrev Table (α : Type) := List (Nat × α)

/-- The entry listed at an index, if any. -/
def Table.at? {α : Type} : Table α → Nat → Option α
  | [], _ => none
  | (j, v) :: t, k => if j = k then some v else Table.at? t k

/-- The entry at an index, `d` where none is listed. -/
def Table.atD {α : Type} (t : Table α) (k : Nat) (d : α) : α := (Table.at? t k).getD d

/-- Lists an entry at an index, in place of the one listed there before. -/
def Table.store {α : Type} : Table α → Nat → α → Table α
  | [], k, v => [(k, v)]
  | (j, w) :: t, k, v =>
    if k < j then (k, v) :: (j, w) :: t
    else if k = j then (k, v) :: t
    else (j, w) :: Table.store t k v

/-- Lists nothing at an index. -/
def Table.remove {α : Type} (t : Table α) (k : Nat) : Table α := t.filter fun e => e.1 != k

/-- Writes an entry of a table whose unlisted entries read as `d`, keeping the canonical form. -/
def Table.put {α : Type} [DecidableEq α] (d : α) (t : Table α) (k : Nat) (v : α) : Table α :=
  if v = d then Table.remove t k else Table.store t k v

/-- Rewrites every listed entry, keeping the canonical form of a table whose unlisted entries read as `d`. -/
def Table.mapD {α : Type} [DecidableEq α] (d : α) (f : α → α) (t : Table α) : Table α :=
  t.filterMap fun e => if f e.2 = d then none else some (e.1, f e.2)

/-- The keys rise strictly. -/
abbrev Table.Rising {α : Type} (t : Table α) : Prop := t.Pairwise fun a b => a.1 < b.1

/-- The canonical form: strictly rising keys, and no entry equal to what an unlisted index reads as. -/
abbrev Table.Canonical {α : Type} (d : α) (t : Table α) : Prop := Table.Rising t ∧ ∀ e ∈ t, e.2 ≠ d

end Sys2Proof.Machine
end

