-- ==== Sys2Proof/Machine/State.lean ====
section
/-! DEFINITION. Everything the DT40 holds, as plain data, and its part reset values. Tables are sparse
(Machine/Table.lean): an index that is not listed holds its part reset value. INVENTORY.md gives the rule of every
field. -/

namespace Sys2Proof.Machine

/-! ### The luminaire register (chapter 01) -/

/-- A test kind (R2, R3). -/
inductive Kind where
  | function
  | duration
  deriving DecidableEq, Repr

/-- The state of a record (R65). -/
inductive RecordState where
  | ready
  | ordered
  | testing
  | recharging
  | faulty
  | silent
  deriving DecidableEq, Repr

/-- The judgement of a closed test (R3, R70). -/
inductive Verdict where
  | pass
  | passLow
  | failCutoff
  | failLamp
  | refused
  | noAnswer
  | void
  deriving DecidableEq, Repr

/-- The detail of a verdict (R3). -/
inductive Detail where
  | notCharged
  | notPresent
  | localTest
  | beforeStart
  | afterStart
  deriving DecidableEq, Repr

/-- The last outcome of a record (R3). -/
structure LastOutcome where
  kind : Kind
  verdict : Verdict
  detail : Option Detail
  closeMinute : Nat
  measured : Nat
  permille : Nat
  rehearsal : Bool
  deriving DecidableEq, Repr

/-- An enrolled record (R2). An absent optional field is `none`; `requested` is `none` for NONE. -/
structure Record where
  segment : Nat
  address : Nat
  zone : Nat
  cls : Nat
  neighbours : List Nat
  state : RecordState
  enrolMinute : Nat
  lastFunction : Option Nat
  lastDuration : Option Nat
  hold : Option Nat
  requested : Option Kind
  shortInterval : Bool
  noAnswer : Nat
  retirePending : Bool
  lastOutcome : Option LastOutcome
  deriving DecidableEq, Repr

/-- The nine figures of a class (R4). -/
structure Figures where
  functionLength : Nat
  ratedDuration : Nat
  functionInterval : Nat
  durationInterval : Nat
  earlyWindow : Nat
  grace : Nat
  rechargeFactor : Nat
  rechargeMin : Nat
  rechargeMax : Nat
  deriving DecidableEq, Repr

/-- An entry of the class table (R4): undefined where `figures` is `none`. -/
structure ClassEntry where
  figures : Option Figures
  users : Nat
  deriving DecidableEq, Repr

/-- An entry of the class table after part reset (R4). -/
def ClassEntry.reset : ClassEntry := { figures := none, users := 0 }

/-- An entry of the zone table (R8). -/
structure Zone where
  isDefined : Bool
  profile : Nat
  percent : Nat
  held : Bool
  population : Nat
  uncovered : Nat
  deriving DecidableEq, Repr

/-- An entry of the zone table after part reset (R8). -/
def Zone.reset : Zone :=
  { isDefined := false, profile := 0, percent := 100, held := false, population := 0, uncovered := 0 }

/-- The mains state of a segment (R146). -/
inductive Mains where
  | unknown
  | present
  | absent
  deriving DecidableEq, Repr

/-- An entry of the segment table (R13, R146). Its halt pending field is its place in `State.pendingHalt`. -/
structure Segment where
  enabled : Bool
  cap : Nat
  active : Nat
  mains : Mains
  outageStart : Option Nat
  deriving DecidableEq, Repr

/-- An entry of the segment table after part reset (R13, R146). -/
def Segment.reset : Segment :=
  { enabled := false, cap := 1, active := 0, mains := .unknown, outageStart := none }

/-! ### Campus clock and calendars (chapter 02) -/

/-- The minute clock (R26). -/
structure Clock where
  value : Nat
  isSet : Bool
  seconds : Nat
  deriving DecidableEq, Repr

/-- The scope of an exception (R36). -/
inductive ExceptionScope where
  | campus
  | profile (index : Nat)
  | zone (index : Nat)
  deriving DecidableEq, Repr

/-- An entry of the exception list (R36): `opens` is its effect, OPEN where set and CLOSE where clear. -/
structure CalendarException where
  start : Nat
  stop : Nat
  scope : ExceptionScope
  opens : Bool
  deriving DecidableEq, Repr

/-! ### The planner (chapter 05) -/

/-- The sweep mode (R85). -/
inductive SweepMode where
  | off
  | single
  | repeating
  deriving DecidableEq, Repr

/-- The sweep scope and the pass scope (R85). -/
inductive SweepScope where
  | all
  | zone (index : Nat)
  deriving DecidableEq, Repr

/-- The pass phase (R85). -/
inductive PassPhase where
  | idle
  | visiting
  | dispatching
  deriving DecidableEq, Repr

/-- A candidate entry (R97). -/
structure Candidate where
  index : Nat
  kind : Kind
  requested : Bool
  deadline : Nat
  deriving DecidableEq, Repr

/-- The outcome of a published entry (R99). -/
inductive TrialOutcome where
  | notTried
  | dispatched
  | backlog
  | noChannel
  | gone
  | segmentDown
  | segmentFull
  | zoneCover
  | neighbour
  deriving DecidableEq, Repr

/-- A published entry (R99). -/
structure PublishedEntry where
  entry : Candidate
  outcome : TrialOutcome
  deriving DecidableEq, Repr

/-- The planner's state (R85). -/
structure Planner where
  mode : SweepMode
  scope : SweepScope
  phase : PassPhase
  passScope : SweepScope
  cursor : Nat
  working : List Candidate
  tally : Nat
  trialPosition : Nat
  published : List PublishedEntry
  publishedOverdue : Nat
  deriving DecidableEq, Repr

/-! ### Test channels (chapter 06) -/

/-- The state of a channel (R107). -/
inductive ChannelState where
  | free
  | ordered
  | running
  | stopping
  | aborting
  deriving DecidableEq, Repr

/-- Which timer of a channel is running (R107). -/
inductive TimerRole where
  | none
  | run
  | answer
  deriving DecidableEq, Repr

/-- How an ABORTING channel entered that state (R107). -/
inductive AbortPath where
  | order
  | halt
  deriving DecidableEq, Repr

/-- A channel context (R107). -/
structure Channel where
  state : ChannelState
  index : Nat
  kind : Kind
  generation : Nat
  started : Bool
  runSeconds : Nat
  elapsed : Nat
  role : TimerRole
  target : Nat
  path : AbortPath
  deriving DecidableEq, Repr

/-- A channel context after part reset (R107). -/
def Channel.reset : Channel :=
  { state := .free, index := 0, kind := .function, generation := 0, started := false, runSeconds := 0, elapsed := 0
    role := .none, target := 0, path := .order }

/-! ### The segment link (chapter 07) -/

/-- The kind of an order (R131). -/
inductive OrderKind where
  | startFunction
  | startDuration
  | stop
  | abort
  deriving DecidableEq, Repr

/-- An order in the dispatch queue, its fields (R131). Its 24 data bits and check bits are `orderWord` of
Machine/LinkOps.lean; the check sense cannot change while it waits, since CONFIGURE LINK empties the queue (R134). -/
structure Order where
  kind : OrderKind
  channel : Nat
  generation : Nat
  segment : Nat
  address : Nat
  deriving DecidableEq, Repr

/-- The check sense (R128, R134). -/
inductive CheckSense where
  | odd
  | even
  deriving DecidableEq, Repr

/-- The link's state (R128). `stallDue` is the MODEL's own: the last second tick found the stall count at or above the
answer time with the latch clear, and the STALL step has not yet been taken (notes/assumptions/6.md). -/
structure Link where
  configured : Bool
  sense : CheckSense
  threshold : Nat
  loopback : Bool
  dispatch : List Order
  reports : List QueueWord
  haltBox : Option SegMap
  mainsBox : Option BoxWord
  stallCount : Nat
  stallLatch : Bool
  stallDue : Bool
  deriving DecidableEq, Repr

/-- The words last handed to the concentrator at a take (R136, R142): the MODEL's own record of what left the part
(notes/assumptions/8.md). -/
structure Line where
  order : Option QueueWord
  halt : Option BoxWord
  deriving DecidableEq, Repr

/-! ### Programme control (chapter 09) -/

/-- The programme state (R157). -/
inductive ProgrammeState where
  | stopped
  | running
  | suspended
  | halting
  deriving DecidableEq, Repr

/-- Programme control's state (R157). -/
structure Programme where
  state : ProgrammeState
  resumeMinute : Option Nat
  deriving DecidableEq, Repr

/-! ### The host port (chapter 10) -/

/-- The result of an action (00_scope.md, "Result codes at a glance"). -/
inductive Result where
  | done
  | doneClamped
  | deferred
  | noEffect
  | inProgress
  | malformed
  | outOfRange
  | notEnrolled
  | slotInUse
  | addressTaken
  | neighbourInvalid
  | neighbourFull
  | neighbourBusy
  | classUndefined
  | zoneUndefined
  | inUse
  | inTest
  | wrongState
  | clockUnset
  | listFull
  | duplicate
  | notFound
  | linkUnconfigured
  deriving DecidableEq, Repr

/-- The filter of a walk (R173, R174): `state` carries the state code the host gave. -/
inductive WalkFilter where
  | all
  | zone (index : Nat)
  | state (code : Nat)
  deriving DecidableEq, Repr

/-- The cursor of a walk in progress (R173): its filter, start index and next index. Once its first image has been
sampled, `next = start` says that every index has been examined. -/
structure WalkCursor where
  filter : WalkFilter
  start : Nat
  next : Nat
  deriving DecidableEq, Repr

/-- The host port's state (chapter 10, state table). BUSY is set exactly while an action is in hand. Two fields are the
MODEL's own: `statusRead` says that the transaction in progress is a READ STATUS (notes/assumptions/14.md), `output`
holds the bytes of the item last sampled for a read (notes/assumptions/7.md). -/
structure Port where
  inHand : Option Instr
  lastResult : Result
  dropped : Bool
  turnaround : Nat
  walk : Option WalkCursor
  statusRead : Bool
  output : List Byte
  deriving DecidableEq, Repr

/-! ### Attention (chapter 11) -/

/-- What the attention unit holds for one cause (R178). -/
structure CauseState where
  pending : Bool
  level : Nat
  carried : Nat
  deriving DecidableEq, Repr

/-- A cause after part reset (R178). -/
def CauseState.reset : CauseState := { pending := false, level := 0, carried := 0 }

/-- The attention unit (R178): the causes by their numbers 1..8, and the MAINS_CHANGE map. -/
structure Attention where
  causes : Table CauseState
  changeMap : SegMap
  deriving DecidableEq, Repr

/-! ### The machine -/

/-- Why the part stops. The spec names no condition that stops it, so there is no constructor: no step faults
(notes/assumptions/17.md; safe, since the part goes on). -/
inductive Fault where
  deriving DecidableEq, Repr

/-- Why a step has no meaning. -/
inductive Refusal where
  /-- Raised by an arm of `exec` whose command has no meaning yet (none); safe, since nothing is claimed of it. -/
  | notModelled (mnemonic : String)
  deriving DecidableEq, Repr

/-- The state of the DT40. -/
structure State where
  luminaires : Table Record
  classes : Table ClassEntry
  zones : Table Zone
  segments : Table Segment
  lookup : Table Nat
  clock : Clock
  profiles : Table Slots
  exceptions : List CalendarException
  planner : Planner
  channels : Table Channel
  answerTime : Nat
  link : Link
  pendingHalt : SegMap
  programme : Programme
  port : Port
  attention : Attention
  line : Line
  pending : List Instr
  deriving DecidableEq, Repr

/-- The planner after part reset (R85). -/
def Planner.reset : Planner :=
  { mode := .off, scope := .all, phase := .idle, passScope := .all, cursor := 0, working := [], tally := 0
    trialPosition := 0, published := [], publishedOverdue := 0 }

/-- The link after part reset (R128). -/
def Link.reset : Link :=
  { configured := false, sense := .odd, threshold := 16, loopback := false, dispatch := [], reports := []
    haltBox := none, mainsBox := none, stallCount := 0, stallLatch := false, stallDue := false }

/-- The host port after part reset (chapter 10, state table). -/
def Port.reset : Port :=
  { inHand := none, lastResult := .done, dropped := false, turnaround := 1, walk := none, statusRead := false
    output := [] }

/-- The DT40 after part reset (R177): every block at the values its own chapter gives, and no command waiting. -/
def State.reset : State :=
  { luminaires := []
    classes := []
    zones := []
    segments := []
    lookup := []
    clock := { value := 0, isSet := false, seconds := 0 }
    profiles := []
    exceptions := []
    planner := Planner.reset
    channels := []
    answerTime := 120
    link := Link.reset
    pendingHalt := 0
    programme := { state := .stopped, resumeMinute := none }
    port := Port.reset
    attention := { causes := [], changeMap := 0 }
    line := { order := none, halt := none }
    pending := [] }

/-- What a step answers. -/
abbrev Out := Host.Outcome State Fault Refusal

end Sys2Proof.Machine
end

