-- ==== Sys2Proof/Machine/Arithmetic.lean ====
section
/-! DEFINITION. Test arithmetic (chapter 03): functions of figures, a record and a minute, that hold nothing. -/

namespace Sys2Proof.Machine

/-- A sum of minutes saturates (R45). -/
def satAdd (a b : Nat) : Nat := min (a + b) Config.maxMinute

/-- A division that rounds up. -/
def ceilDiv (a b : Nat) : Nat := (a + b - 1) / b

/-- The figures of an undefined class. No enrolled record names one (R6), so no computation of a reached state reads
them (notes/assumptions/16.md). -/
def Figures.absent : Figures :=
  { functionLength := 0, ratedDuration := 0, functionInterval := 0, durationInterval := 0, earlyWindow := 0
    grace := 0, rechargeFactor := 0, rechargeMin := 0, rechargeMax := 0 }

/-- The figures a class entry holds. -/
def ClassEntry.read (e : ClassEntry) : Figures := e.figures.getD Figures.absent

/-- The interval of a kind in days (R46). -/
def intervalDays (f : Figures) (short : Bool) : Kind → Nat
  | .function => f.functionInterval
  | .duration => if short then max 1 (f.durationInterval / 2) else f.durationInterval

/-- The last pass of a kind. -/
def Record.lastPass (r : Record) : Kind → Option Nat
  | .function => r.lastFunction
  | .duration => r.lastDuration

/-- The due minute of a kind (R47). -/
def dueMinute (f : Figures) (r : Record) (k : Kind) : Nat :=
  match r.lastPass k with
  | some p => satAdd p (intervalDays f r.shortInterval k * Config.dayMinutes)
  | none => r.enrolMinute

/-- The eligible-from minute of a kind (R48); subtraction of naturals clamps at 0. -/
def eligibleFrom (f : Figures) (r : Record) (k : Kind) : Nat :=
  dueMinute f r k - f.earlyWindow * Config.dayMinutes

/-- The deadline minute of a kind (R49). -/
def deadlineMinute (f : Figures) (r : Record) (k : Kind) : Nat :=
  satAdd (dueMinute f r k) (f.grace * Config.dayMinutes)

/-- A kind is open (R50). -/
def isOpen (f : Figures) (r : Record) (k : Kind) (now : Nat) : Bool := decide (eligibleFrom f r k ≤ now)

/-- A kind is overdue (R50). -/
def isOverdue (f : Figures) (r : Record) (k : Kind) (now : Nat) : Bool := decide (deadlineMinute f r k ≤ now)

/-- The cover limit of a zone (R52). -/
def coverLimit (population percent : Nat) : Nat :=
  if population = 0 then 0 else max 1 (population * percent / 100)

/-- The run seconds captured at binding (R54). -/
def runSecondsOf (f : Figures) : Kind → Nat
  | .function => f.functionLength
  | .duration => f.ratedDuration * 60

/-- The span of a kind in minutes (R43). -/
def spanOf (f : Figures) : Kind → Nat
  | .function => ceilDiv f.functionLength 60
  | .duration => f.ratedDuration

/-- The capacity permille of a closed test (R56). -/
def capacityPermille (v : Verdict) (elapsed run : Nat) : Nat :=
  match v with
  | .pass => 1000
  | .passLow => 1000
  | _ => min elapsed run * 1000 / run

/-- The discharged minutes of a closed test (R58). -/
def dischargedAtClose (elapsed run : Nat) : Nat := min (ceilDiv elapsed 60) (ceilDiv run 60)

/-- The discharged minutes of an outage (R59). -/
def dischargedAtRestore (outageStart now rated : Nat) : Nat := min (max 1 (now - outageStart)) rated

/-- The recharge hold of discharged minutes (R60). -/
def rechargeHold (f : Figures) (d : Nat) : Nat :=
  max f.rechargeMin (min (ceilDiv (d * f.rechargeFactor) 16) f.rechargeMax)

/-- The week slot of a minute (R33). -/
def weekSlot (m : Nat) : Nat := m / 1440 % 7 * 48 + m % 1440 / 30

end Sys2Proof.Machine
end

