-- ==== Sys2Proof/Machine/Operands.lean ====
section
/-! DEFINITION. The values a command carries: clamping of numeric figures (00_scope.md, "Refusal and clamping"; R176),
and the codes of 10.4, read from an argument byte and written into read data. A code that is not listed is out of
range. -/

namespace Sys2Proof.Machine

/-! ### Clamping -/

/-- A figure clamped to the nearer limit of its range. -/
def clampTo (lo hi v : Nat) : Nat := max lo (min v hi)

/-- The figure lay outside its range. -/
def clamps (lo hi v : Nat) : Bool := decide (v < lo) || decide (hi < v)

/-- DONE_CLAMPED where a value was clamped, DONE otherwise. -/
def doneOr (clamped : Bool) : Result := if clamped then .doneClamped else .done

/-- A flag argument: 0 clear, any other value set (10.5). -/
def flagOf (b : Byte) : Bool := b.toNat != 0

/-! ### Codes read from arguments (10.4) -/

/-- The test kind codes. -/
def kindOfCode (b : Byte) : Option Kind :=
  match b.toNat with
  | 0 => some .function
  | 1 => some .duration
  | _ => none

/-- The sweep mode codes. -/
def sweepModeOfCode (b : Byte) : Option SweepMode :=
  match b.toNat with
  | 0 => some .off
  | 1 => some .single
  | 2 => some .repeating
  | _ => none

/-- The sweep scope codes; the zone byte is read when the code is ZONE (R86). -/
def sweepScopeOfCode (b zone : Byte) : Option SweepScope :=
  match b.toNat with
  | 0 => some .all
  | 1 => some (.zone zone.toNat)
  | _ => none

/-- The exception scope codes with their index; the index is ignored under CAMPUS and lies in 0..31 under PROFILE
(R37). -/
def exceptionScopeOf (b index : Byte) : Option ExceptionScope :=
  match b.toNat with
  | 0 => some .campus
  | 1 => if index.toNat < Config.profileCount then some (.profile index.toNat) else none
  | 2 => some (.zone index.toNat)
  | _ => none

/-- The exception effect codes: 0 CLOSE, 1 OPEN. -/
def opensOfCode (b : Byte) : Option Bool :=
  match b.toNat with
  | 0 => some false
  | 1 => some true
  | _ => none

/-- The check sense codes. -/
def senseOfCode (b : Byte) : Option CheckSense :=
  match b.toNat with
  | 0 => some .odd
  | 1 => some .even
  | _ => none

/-- The backlog threshold codes. -/
def thresholdOfCode (b : Byte) : Option Nat :=
  match b.toNat with
  | 0 => some 8
  | 1 => some 16
  | 2 => some 24
  | 3 => some 32
  | _ => none

/-- The loopback codes. -/
def loopbackOfCode (b : Byte) : Option Bool :=
  match b.toNat with
  | 0 => some false
  | 1 => some true
  | _ => none

/-! ### Codes written into read data (10.4) -/

/-- The record state codes; 7 stands for FREE. -/
def RecordState.code : RecordState → Nat
  | .ready => 0
  | .ordered => 1
  | .testing => 2
  | .recharging => 3
  | .faulty => 4
  | .silent => 5

/-- The requested codes. -/
def requestedCode : Option Kind → Nat
  | none => 0
  | some .function => 1
  | some .duration => 2

/-- The test kind codes. -/
def Kind.code : Kind → Nat
  | .function => 0
  | .duration => 1

/-- The verdict codes. -/
def Verdict.code : Verdict → Nat
  | .pass => 0
  | .passLow => 1
  | .failCutoff => 2
  | .failLamp => 3
  | .refused => 4
  | .noAnswer => 5
  | .void => 6

/-- The outcome detail codes. -/
def detailCode : Option Detail → Nat
  | none => 0
  | some .notCharged => 1
  | some .notPresent => 2
  | some .localTest => 3
  | some .beforeStart => 4
  | some .afterStart => 5

/-- The programme state codes. -/
def ProgrammeState.code : ProgrammeState → Nat
  | .stopped => 0
  | .running => 1
  | .suspended => 2
  | .halting => 3

/-- The sweep mode codes. -/
def SweepMode.code : SweepMode → Nat
  | .off => 0
  | .single => 1
  | .repeating => 2

/-- The sweep scope codes. -/
def SweepScope.code : SweepScope → Nat
  | .all => 0
  | .zone _ => 1

/-- The zone of a ZONE sweep scope, 0 while the scope is ALL (R99). -/
def SweepScope.zoneIndex : SweepScope → Nat
  | .all => 0
  | .zone z => z

/-- The pass phase codes. -/
def PassPhase.code : PassPhase → Nat
  | .idle => 0
  | .visiting => 1
  | .dispatching => 2

/-- The candidate outcome codes. -/
def TrialOutcome.code : TrialOutcome → Nat
  | .notTried => 0
  | .dispatched => 1
  | .backlog => 2
  | .noChannel => 3
  | .gone => 4
  | .segmentDown => 5
  | .segmentFull => 6
  | .zoneCover => 7
  | .neighbour => 8

/-- The exception scope codes. -/
def ExceptionScope.code : ExceptionScope → Nat
  | .campus => 0
  | .profile _ => 1
  | .zone _ => 2

/-- The index an exception's scope carries, 0 under CAMPUS (R37). -/
def ExceptionScope.index : ExceptionScope → Nat
  | .campus => 0
  | .profile p => p
  | .zone z => z

/-- The mains state codes. -/
def Mains.code : Mains → Nat
  | .unknown => 0
  | .present => 1
  | .absent => 2

/-- The channel state codes. -/
def ChannelState.code : ChannelState → Nat
  | .free => 0
  | .ordered => 1
  | .running => 2
  | .stopping => 3
  | .aborting => 4

/-- The timer role codes. -/
def TimerRole.code : TimerRole → Nat
  | .none => 0
  | .run => 1
  | .answer => 2

/-- The abort path codes. -/
def AbortPath.code : AbortPath → Nat
  | .order => 0
  | .halt => 1

/-- The order kind codes of an order word. -/
def OrderKind.code : OrderKind → Nat
  | .startFunction => 0
  | .startDuration => 1
  | .stop => 2
  | .abort => 3

/-- The result codes (00_scope.md, "Result codes at a glance"). -/
def Result.code : Result → Nat
  | .done => 0x00
  | .doneClamped => 0x01
  | .deferred => 0x02
  | .noEffect => 0x03
  | .inProgress => 0x04
  | .malformed => 0x10
  | .outOfRange => 0x11
  | .notEnrolled => 0x12
  | .slotInUse => 0x13
  | .addressTaken => 0x14
  | .neighbourInvalid => 0x15
  | .neighbourFull => 0x16
  | .neighbourBusy => 0x17
  | .classUndefined => 0x18
  | .zoneUndefined => 0x19
  | .inUse => 0x1A
  | .inTest => 0x1B
  | .wrongState => 0x1C
  | .clockUnset => 0x1D
  | .listFull => 0x1E
  | .duplicate => 0x1F
  | .notFound => 0x20
  | .linkUnconfigured => 0x21

end Sys2Proof.Machine
end

