-- ==== Sys2Proof/Machine/Ops.lean ====
section
/-! DEFINITION. The named operations over the tables of State: reading and writing one entry, the counts the register
keeps with every change of a record (R9, R13), links between neighbours (R17), and freeing a record (R24). -/

namespace Sys2Proof.Machine

/-! ### One entry of a table -/

/-- The record in a slot; `none` where the slot is FREE (R1). -/
def State.record? (s : State) (i : Nat) : Option Record := s.luminaires.at? i

/-- Writes the record of a slot. -/
def State.setRecord (s : State) (i : Nat) (r : Record) : State := { s with luminaires := s.luminaires.store i r }

/-- Makes a slot FREE. -/
def State.dropRecord (s : State) (i : Nat) : State := { s with luminaires := s.luminaires.remove i }

/-- An entry of the class table. -/
def State.classAt (s : State) (c : Nat) : ClassEntry := s.classes.atD c ClassEntry.reset

/-- Writes an entry of the class table. -/
def State.setClass (s : State) (c : Nat) (e : ClassEntry) : State :=
  { s with classes := s.classes.put ClassEntry.reset c e }

/-- The figures a class holds when they are needed (R7). -/
def State.figures (s : State) (c : Nat) : Figures := (s.classAt c).read

/-- An entry of the zone table. -/
def State.zoneAt (s : State) (z : Nat) : Zone := s.zones.atD z Zone.reset

/-- Writes an entry of the zone table. -/
def State.setZone (s : State) (z : Nat) (e : Zone) : State := { s with zones := s.zones.put Zone.reset z e }

/-- An entry of the segment table. -/
def State.segmentAt (s : State) (g : Nat) : Segment := s.segments.atD g Segment.reset

/-- Writes an entry of the segment table. -/
def State.setSegment (s : State) (g : Nat) (e : Segment) : State :=
  { s with segments := s.segments.put Segment.reset g e }

/-- A channel context. -/
def State.channelAt (s : State) (k : Nat) : Channel := s.channels.atD k Channel.reset

/-- Writes a channel context. -/
def State.setChannel (s : State) (k : Nat) (c : Channel) : State :=
  { s with channels := s.channels.put Channel.reset k c }

/-- The slots of a profile (R34). -/
def State.profileAt (s : State) (p : Nat) : Slots := s.profiles.atD p 0

/-- Writes the slots of a profile. -/
def State.setProfile (s : State) (p : Nat) (v : Slots) : State := { s with profiles := s.profiles.put 0 p v }

/-- The key of a location in the address lookup (R15). -/
def locationKey (segment address : Nat) : Nat := segment * 256 + address

/-- The index the address lookup holds for a location (R15). -/
def State.locate (s : State) (segment address : Nat) : Option Nat := s.lookup.at? (locationKey segment address)

/-- Adds a location to the address lookup. -/
def State.addLocation (s : State) (segment address i : Nat) : State :=
  { s with lookup := s.lookup.store (locationKey segment address) i }

/-- Removes a location from the address lookup. -/
def State.removeLocation (s : State) (segment address : Nat) : State :=
  { s with lookup := s.lookup.remove (locationKey segment address) }

/-- The clock as every block reads it: 0 while it is UNSET (R26). -/
def State.now (s : State) : Nat := if s.clock.isSet then s.clock.value else 0

/-- Segment `g` is marked in a map of the segments (R133). -/
def marked (m : SegMap) (g : Nat) : Bool := m.getLsbD g

/-- The map of one segment. -/
def markOf (g : Nat) : SegMap := BitVec.ofNat 16 (2 ^ g)

/-- The segments of the part, in order. -/
def allSegments : List Nat := List.range Config.segmentCount

/-- The channels of the part, in order. -/
def allChannels : List Nat := List.range Config.channelCount

/-! ### Counts kept with the records (R4, R9, R13) -/

/-- The record is uncovered (R2, R65). -/
def RecordState.uncovered : RecordState → Bool
  | .ready => false
  | _ => true

/-- The record is under test. -/
def RecordState.inTest : RecordState → Bool
  | .ordered => true
  | .testing => true
  | _ => false

/-- 1 for an uncovered state, 0 for a covered one. -/
def RecordState.uncoveredCount (st : RecordState) : Nat := if st.uncovered then 1 else 0

/-- A zone's uncovered count after one of its records went from one state to another (R9). -/
def Zone.recount (e : Zone) (before after : RecordState) : Zone :=
  { e with uncovered := e.uncovered + after.uncoveredCount - before.uncoveredCount }

/-- Rewrites a record that stays in its zone, its zone's uncovered count with it in the one event (R9). -/
def State.transition (s : State) (i : Nat) (before after : Record) : State :=
  (s.setRecord i after).setZone after.zone ((s.zoneAt after.zone).recount before.state after.state)

/-- A record joins a zone's counts (R9). -/
def Zone.join (e : Zone) (st : RecordState) : Zone :=
  { e with population := e.population + 1, uncovered := e.uncovered + st.uncoveredCount }

/-- A record leaves a zone's counts (R9). -/
def Zone.leave (e : Zone) (st : RecordState) : Zone :=
  { e with population := e.population - 1, uncovered := e.uncovered - st.uncoveredCount }

/-- A record in state `st` joins zone `z`. -/
def State.joinZone (s : State) (z : Nat) (st : RecordState) : State := s.setZone z ((s.zoneAt z).join st)

/-- A record in state `st` leaves zone `z`. -/
def State.leaveZone (s : State) (z : Nat) (st : RecordState) : State := s.setZone z ((s.zoneAt z).leave st)

/-- A class gains a user (R4). -/
def State.joinClass (s : State) (c : Nat) : State :=
  s.setClass c { s.classAt c with users := (s.classAt c).users + 1 }

/-- A class loses a user (R4). -/
def State.leaveClass (s : State) (c : Nat) : State :=
  s.setClass c { s.classAt c with users := (s.classAt c).users - 1 }

/-- A segment's active count rises by 1 (R13). -/
def State.raiseActive (s : State) (g : Nat) : State :=
  s.setSegment g { s.segmentAt g with active := (s.segmentAt g).active + 1 }

/-- A segment's active count falls by 1 (R13). -/
def State.lowerActive (s : State) (g : Nat) : State :=
  s.setSegment g { s.segmentAt g with active := (s.segmentAt g).active - 1 }

/-! ### Links between neighbours (R17) -/

/-- Appends index `i` to the list of record `n`: the other end of a link that is made. -/
def State.linkEnd (s : State) (n i : Nat) : State :=
  match s.record? n with
  | some r => s.setRecord n { r with neighbours := r.neighbours ++ [i] }
  | none => s

/-- Removes index `i` from the list of record `n`: the other end of a link that is broken. -/
def State.unlinkEnd (s : State) (n i : Nat) : State :=
  match s.record? n with
  | some r => s.setRecord n { r with neighbours := r.neighbours.filter fun m => m != i }
  | none => s

/-- Makes the other ends of links from `i` to each of `l`, in order. -/
def State.linkAll (s : State) (i : Nat) (l : List Nat) : State := l.foldl (fun acc n => acc.linkEnd n i) s

/-- Breaks the other ends of links from `i` to each of `l`. -/
def State.unlinkAll (s : State) (i : Nat) (l : List Nat) : State := l.foldl (fun acc n => acc.unlinkEnd n i) s

/-- Freeing a record, the register's single operation for removing one (R24). -/
def State.freeRecord (s : State) (i : Nat) (r : Record) : State :=
  (((((s.unlinkAll i r.neighbours).leaveZone r.zone r.state).leaveClass r.cls).removeLocation
    r.segment r.address).dropRecord i)

end Sys2Proof.Machine
end

