-- ==== Sys2Proof/Machine/Calendar.lean ====
section
/-! DEFINITION. The calendars (chapter 02): which entries cover a minute and apply to a zone, the effective state of a
minute, window fit, and the exception list's order. -/

namespace Sys2Proof.Machine

/-- A slot of a profile is OPEN; slot 0 is the most significant bit (R34, 10.4). -/
def slotOpen (v : Slots) (slot : Nat) : Bool := v.getMsbD slot

/-- An entry covers a minute (R36). -/
def CalendarException.covers (e : CalendarException) (m : Nat) : Bool := decide (e.start ≤ m) && decide (m < e.stop)

/-- An entry's scope applies to zone `z`, whose profile field names `p` (R40). -/
def CalendarException.appliesTo (e : CalendarException) (z p : Nat) : Bool :=
  match e.scope with
  | .campus => true
  | .profile q => q == p
  | .zone w => w == z

/-- The entry has scope ZONE. -/
def CalendarException.isZone (e : CalendarException) : Bool :=
  match e.scope with
  | .zone _ => true
  | _ => false

/-- The entry has scope PROFILE. -/
def CalendarException.isProfile (e : CalendarException) : Bool :=
  match e.scope with
  | .profile _ => true
  | _ => false

/-- The entries that decide among those gathered: the most specific scope present (R42, step 2). -/
def deciding (gathered : List CalendarException) : List CalendarException :=
  if gathered.any (·.isZone) then gathered.filter (·.isZone)
  else if gathered.any (·.isProfile) then gathered.filter (·.isProfile)
  else gathered

/-- The effective state of minute `m` for zone `z`: OPEN where true (R42). -/
def State.effectiveOpen (s : State) (z m : Nat) : Bool :=
  let p := (s.zoneAt z).profile
  let gathered := s.exceptions.filter fun e => e.covers m && e.appliesTo z p
  if gathered.isEmpty then slotOpen (s.profileAt p) (weekSlot m)
  else (deciding gathered).all (·.opens)

/-- A test of a span fits at minute `t` for zone `z` (R43). -/
def State.fits (s : State) (z t span : Nat) : Bool :=
  decide (t + span ≤ Config.maxMinute + 1) && (List.range span).all fun d => s.effectiveOpen z (t + d)

/-- Places an entry after every entry whose start is at or before its own (R36, R37). -/
def placeException (e : CalendarException) : List CalendarException → List CalendarException
  | [] => [e]
  | x :: l => if x.start ≤ e.start then x :: placeException e l else e :: x :: l

/-- The expiry of exceptions at a clock advance (R39). -/
def State.expireExceptions (s : State) (v : Nat) : State :=
  { s with exceptions := s.exceptions.filter fun e => decide (v < e.stop) }

end Sys2Proof.Machine
end

