-- ==== Sys2Proof/Machine/Flags.lean ====
section
/-! DEFINITION. The attention unit's flags (chapter 11): causes, notices, the OVERDUE condition, the attention line and
the cause a read returns. -/

namespace Sys2Proof.Machine

/-- The eight attention causes (R178). -/
inductive Cause where
  | faultFound
  | silentFound
  | mainsChange
  | overdue
  | linkCheck
  | linkStall
  | programme
  | staleReport
  deriving DecidableEq, Repr

/-- The number of a cause (R178). -/
def Cause.number : Cause → Nat
  | .faultFound => 1
  | .silentFound => 2
  | .mainsChange => 3
  | .overdue => 4
  | .linkCheck => 5
  | .linkStall => 6
  | .programme => 7
  | .staleReport => 8

/-- The causes, lowest number first. -/
def Cause.all : List Cause :=
  [.faultFound, .silentFound, .mainsChange, .overdue, .linkCheck, .linkStall, .programme, .staleReport]

/-- What the unit holds for a cause. -/
def State.causeAt (s : State) (c : Cause) : CauseState := s.attention.causes.atD c.number CauseState.reset

/-- Writes what the unit holds for a cause. -/
def State.setCause (s : State) (c : Cause) (v : CauseState) : State :=
  { s with attention := { s.attention with causes := s.attention.causes.put CauseState.reset c.number v } }

/-- A raise: the pending flag is set and the carried value written, whether or not the flag was set (R179). -/
def State.raise (s : State) (c : Cause) (value : Nat) : State :=
  s.setCause c { s.causeAt c with pending := true, carried := value }

/-- A mains transition of a segment: the map gains it and MAINS_CHANGE is raised, carrying the map (R150, R179). -/
def State.raiseMainsChange (s : State) (g : Nat) : State :=
  let m := s.attention.changeMap ||| markOf g
  ({ s with attention := { s.attention with changeMap := m } }).raise .mainsChange m.toNat

/-- PROGRAMME carries the programme state as it stands at the raise (R178, R179). -/
def State.raiseProgramme (s : State) : State := s.raise .programme s.programme.state.code

/-- The OVERDUE condition at a completion that publishes a count (R180). -/
def State.setOverdue (s : State) (count : Nat) : State :=
  s.setCause .overdue { s.causeAt .overdue with pending := decide (0 < count), carried := count }

/-- OVERDUE is the one condition: reading it does not clear it (R178, R180). -/
def Cause.isNotice : Cause → Bool
  | .overdue => false
  | _ => true

/-- The clearing of a cause by the read that returns it: a notice's flag and value, and for MAINS_CHANGE the map
(R179); a condition stands (R180). -/
def State.clearRead (s : State) (c : Cause) : State :=
  if c.isNotice then
    let t := s.setCause c { s.causeAt c with pending := false, carried := 0 }
    if c = .mainsChange then { t with attention := { t.attention with changeMap := 0 } } else t
  else s

/-- The better of the cause found so far and the next one: pending, and of a higher level (R181). -/
def State.better (s : State) (best : Option Cause) (c : Cause) : Option Cause :=
  if (s.causeAt c).pending then
    match best with
    | none => some c
    | some b => if (s.causeAt b).level < (s.causeAt c).level then some c else some b
  else best

/-- The cause a READ ATTENTION returns: the pending cause of the highest level, the lowest number among equals
(R181). -/
def State.chosenCause (s : State) : Option Cause := Cause.all.foldl s.better none

/-- The attention line (R181). -/
def State.attentionLine (s : State) : Bool :=
  Cause.all.any fun c => (s.causeAt c).pending && decide (1 ≤ (s.causeAt c).level)

/-- The attention pending bit of the first status byte: any cause pending, whatever its level (R181). -/
def State.attentionPending (s : State) : Bool := Cause.all.any fun c => (s.causeAt c).pending

end Sys2Proof.Machine
end

