-- ==== Sys2Proof/Machine/LinkOps.lean ====
section
/-! DEFINITION. The segment link's words and queues (chapter 07): check bits, the fields of words, writing and
withdrawing orders, and the halt word (R154). -/

namespace Sys2Proof.Machine

/-! ### Check bits (R134) -/

/-- How many ones a byte holds. -/
def onesOf (b : Byte) : Nat := ((List.range 8).filter fun n => b.getLsbD n).length

/-- The correct check bit of a byte: with it the byte holds an odd number of ones under ODD, an even number under
EVEN. -/
def checkBit (sense : CheckSense) (b : Byte) : Bool :=
  match sense with
  | .odd => onesOf b % 2 == 0
  | .even => onesOf b % 2 == 1

/-- A byte written with its correct check bit. -/
def sealed (sense : CheckSense) (b : Byte) : LinkByte := { data := b, check := checkBit sense b }

/-- A byte agrees with its check bit. -/
def bytePasses (sense : CheckSense) (b : LinkByte) : Bool := b.check == checkBit sense b.data

/-- A queue word passes its check when every byte does. -/
def queueWordPasses (sense : CheckSense) (w : QueueWord) : Bool :=
  bytePasses sense w.b0 && bytePasses sense w.b1 && bytePasses sense w.b2

/-- A mailbox word passes its check when every byte does. -/
def boxWordPasses (sense : CheckSense) (w : BoxWord) : Bool := bytePasses sense w.b0 && bytePasses sense w.b1

/-! ### The words (R131 to R133, 10.4) -/

/-- The order word of an order: 23 data bits, the remaining one 0. -/
def orderWord (sense : CheckSense) (o : Order) : QueueWord :=
  { b0 := sealed sense (BitVec.ofNat 8 (o.kind.code * 64 + o.channel * 2))
    b1 := sealed sense (BitVec.ofNat 8 (o.generation * 16 + o.segment))
    b2 := sealed sense (BitVec.ofNat 8 o.address) }

/-- The fields of a report word. -/
structure Report where
  kind : Nat
  channel : Nat
  generation : Nat
  detail : Nat
  address : Nat
  deriving DecidableEq, Repr

/-- The fields a report word holds. -/
def reportOf (w : QueueWord) : Report :=
  { kind := w.b0.data.toNat / 32
    channel := w.b0.data.toNat % 32
    generation := w.b1.data.toNat / 16
    detail := w.b1.data.toNat % 16
    address := w.b2.data.toNat }

/-- The report word of the given fields, with correct check bits. -/
def reportWord (sense : CheckSense) (r : Report) : QueueWord :=
  { b0 := sealed sense (BitVec.ofNat 8 (r.kind * 32 + r.channel))
    b1 := sealed sense (BitVec.ofNat 8 (r.generation * 16 + r.detail))
    b2 := sealed sense (BitVec.ofNat 8 r.address) }

/-- The map a mailbox word holds (R133). -/
def mapOf (w : BoxWord) : SegMap := segMapOf w.b0.data w.b1.data

/-- The mailbox word of a map, with correct check bits (R133). -/
def boxWord (sense : CheckSense) (m : SegMap) : BoxWord :=
  { b0 := sealed sense (m.extractLsb' 0 8), b1 := sealed sense (m.extractLsb' 8 8) }

/-! ### The dispatch queue -/

/-- An order written at the tail (R135). -/
def State.writeOrder (s : State) (o : Order) : State :=
  { s with
    link :=
      { s.link with
        dispatch := s.link.dispatch ++ [o]
        stallCount := if s.link.dispatch.isEmpty then 0 else s.link.stallCount } }

/-- The order carries this channel's number and generation (R126). -/
def Order.belongs (o : Order) (k generation : Nat) : Bool := o.channel == k && o.generation == generation

/-- The withdrawal of a closing channel's orders (R126, R137). -/
def State.withdraw (s : State) (k generation : Nat) : State :=
  let headGoes := match s.link.dispatch with
    | o :: _ => o.belongs k generation
    | [] => false
  { s with
    link :=
      { s.link with
        dispatch := s.link.dispatch.filter fun o => !o.belongs k generation
        stallCount := if headGoes then 0 else s.link.stallCount } }

/-- The removal of the head order at a take: the stall count restarts and the stall latch is cleared (R136). -/
def State.dropHead (s : State) : State :=
  { s with link := { s.link with dispatch := s.link.dispatch.tail, stallCount := 0, stallLatch := false } }

/-! ### What the concentrator is shown (R129) -/

/-- The head order the concentrator is shown; in loopback too, where its take of it is not accepted. -/
def State.shownOrder (s : State) : Option QueueWord :=
  if s.link.configured then s.link.dispatch.head?.map (orderWord s.link.sense) else none

/-- The report queue is shown full. -/
def State.shownReportsFull (s : State) : Bool :=
  !s.link.configured || decide (Config.reportLimit ≤ s.link.reports.length)

/-- The halt word the concentrator is shown. -/
def State.shownHalt (s : State) : Option BoxWord :=
  if s.link.configured then s.link.haltBox.map (boxWord s.link.sense) else none

/-- The inbound mailbox is shown full. -/
def State.shownMainsFull (s : State) : Bool := !s.link.configured || s.link.mainsBox.isSome

/-! ### The halt word (R154) -/

/-- Writes the pending halt set as a halt word when the mailbox is FREE and the set is not empty. -/
def State.writeHaltWord (s : State) : State :=
  if s.link.haltBox = none ∧ s.pendingHalt ≠ 0 then
    { s with link := { s.link with haltBox := some s.pendingHalt }, pendingHalt := 0 }
  else s

end Sys2Proof.Machine
end

