-- ==== Sys2Proof/Machine/Records.lean ====
section
/-! DEFINITION. Luminaire test states (chapter 04): the register's events that other blocks bring about. The dispatch
mark, the start mark, hold release, the verdict at a close, and the outage hold at a restore. -/

namespace Sys2Proof.Machine

/-- The dispatch mark (R66): READY to ORDERED, the zone's uncovered and the segment's active count one higher. -/
def State.dispatchMark (s : State) (i : Nat) (r : Record) : State :=
  (s.transition i r { r with state := .ordered }).raiseActive r.segment

/-- The start mark (R67). -/
def State.startMark (s : State) (i : Nat) : State :=
  match s.record? i with
  | some r => s.transition i r { r with state := .testing }
  | none => s

/-- The hold of a record has been reached by clock value `v` (R69). -/
def Record.holdReached (r : Record) (v : Nat) : Bool :=
  match r.hold with
  | some m => decide (m ≤ v)
  | none => false

/-- A record after its hold is removed: RECHARGING becomes READY, any other state stands (R69). -/
def Record.released (r : Record) : Record :=
  { r with hold := none, state := if r.state = .recharging then .ready else r.state }

/-- Hold release of one slot at an advance to `v` (R69). -/
def State.releaseHold (s : State) (v i : Nat) : State :=
  match s.record? i with
  | some r => if r.holdReached v then s.transition i r r.released else s
  | none => s

/-- Hold release at a clock advance to `v`: every enrolled record (R69). -/
def State.releaseHolds (s : State) (v : Nat) : State :=
  s.luminaires.foldl (fun acc e => acc.releaseHold v e.1) s

/-- What a closing channel hands the register (R70, R125). -/
structure Closing where
  kind : Kind
  verdict : Verdict
  detail : Option Detail
  elapsed : Nat
  run : Nat
  deriving DecidableEq, Repr

/-- The last outcome a close writes (R3, R70). -/
def State.outcomeOf (s : State) (h : Closing) : LastOutcome :=
  { kind := h.kind
    verdict := h.verdict
    detail := h.detail
    closeMinute := s.now
    measured := h.elapsed
    permille := capacityPermille h.verdict h.elapsed h.run
    rehearsal := s.link.loopback }

/-- The hold-until of a close that leaves the record RECHARGING (R58, R60, R61). -/
def State.closeHold (s : State) (r : Record) (h : Closing) : Nat :=
  satAdd s.now (rechargeHold (s.figures r.cls) (dischargedAtClose h.elapsed h.run))

/-- The record RECHARGING with the recharge hold of its test. -/
def State.recharging (s : State) (r : Record) (h : Closing) : Record :=
  { r with state := .recharging, hold := some (s.closeHold r h) }

/-- The record READY with a retry hold of a fixed number of minutes (R63). -/
def State.retrying (s : State) (r : Record) (minutes : Nat) : Record :=
  { r with state := .ready, hold := some (satAdd s.now minutes) }

/-- The no-answer count one higher, at most 3 (R75, R76). -/
def Record.unanswered (r : Record) : Record := { r with noAnswer := min 3 (r.noAnswer + 1) }

/-- A record SILENT, with no hold (R75, R76). -/
def Record.silenced (r : Record) : Record := { r with state := .silent, hold := none }

/-- The last passes and the short interval flag of a passed test, left alone by a rehearsal (R71, R72, R78). -/
def Record.passMarks (r : Record) (k : Kind) (low rehearsal : Bool) (now : Nat) : Record :=
  if rehearsal then r
  else
    match k with
    | .function => { r with lastFunction := some now }
    | .duration => { r with lastFunction := some now, lastDuration := some now, shortInterval := low }

/-- A passed test: marks, request and no-answer count cleared, then recharging (R71, R72). -/
def State.passed (s : State) (r : Record) (h : Closing) : Record :=
  s.recharging
    { r.passMarks h.kind (h.verdict == .passLow) s.link.loopback s.now with requested := none, noAnswer := 0 } h

/-- The fields and the state that a verdict calls for (R71 to R77). -/
def State.judged (s : State) (r : Record) (h : Closing) : Record :=
  match h.verdict with
  | .pass => s.passed r h
  | .passLow => s.passed r h
  | .failCutoff => { r with state := .faulty, requested := none, hold := none }
  | .failLamp => { r with state := .faulty, requested := none, hold := none }
  | .refused =>
    if h.detail = some .notCharged ∨ h.detail = some .localTest then s.retrying r 60
    else if r.unanswered.noAnswer = 3 then r.unanswered.silenced
    else s.retrying r.unanswered 30
  | .noAnswer =>
    if r.unanswered.noAnswer = 3 then r.unanswered.silenced
    else if h.detail = some .afterStart then s.recharging r.unanswered h
    else s.retrying r.unanswered 30
  | .void =>
    if h.detail = some .afterStart then s.recharging r h
    else { r with state := .ready, hold := none }

/-- The notice that a record's new state calls for (R70, step 4). -/
def State.noticeEntry (s : State) (i : Nat) (after : RecordState) : State :=
  match after with
  | .faulty => s.raise .faultFound i
  | .silent => s.raise .silentFound i
  | _ => s

/-- The register applies a verdict (R70): last outcome, fields, state, the zone's uncovered count and the notice. -/
def State.applyVerdict (s : State) (i : Nat) (r : Record) (h : Closing) : State :=
  let r' := { s.judged r h with lastOutcome := some (s.outcomeOf h) }
  (s.transition i r r').noticeEntry i r'.state

/-- The hold-until of an outage hold (R59, R60, R61). -/
def State.restoreHold (s : State) (r : Record) (outageStart : Nat) : Nat :=
  let f := s.figures r.cls
  satAdd s.now (rechargeHold f (dischargedAtRestore outageStart s.now f.ratedDuration))

/-- The later of an existing hold-until and a computed one (R62). -/
def laterHold (existing : Option Nat) (computed : Nat) : Nat :=
  match existing with
  | some m => max m computed
  | none => computed

/-- The outage hold of one slot at the restore of segment `g` (R79, R149). -/
def State.outageHold (s : State) (g outageStart i : Nat) : State :=
  match s.record? i with
  | some r =>
    if r.segment = g ∧ (r.state = .ready ∨ r.state = .recharging) then
      s.transition i r { r with state := .recharging, hold := some (laterHold r.hold (s.restoreHold r outageStart)) }
    else s
  | none => s

/-- The outage holds of a restore: every enrolled record on the segment that is READY or RECHARGING (R149). -/
def State.outageHolds (s : State) (g outageStart : Nat) : State :=
  s.luminaires.foldl (fun acc e => acc.outageHold g outageStart e.1) s

end Sys2Proof.Machine
end

