-- ==== Sys2Proof/Machine/ChannelOps.lean ====
section
/-! DEFINITION. The test channels (chapter 06): binding, the close with its part at the register, the link and programme
control, expiry of timers, halt mark, halt take and outage entry, and the judging of reports. -/

namespace Sys2Proof.Machine

/-- A channel is bound (R107). -/
def State.bound (s : State) (k : Nat) : Bool := (s.channelAt k).state != .free

/-- The bound channel count (R109). -/
def State.boundCount (s : State) : Nat := (allChannels.filter s.bound).length

/-- The record a channel is bound to lies on segment `g` (R123). -/
def State.onSegment (s : State) (k g : Nat) : Bool :=
  match s.record? (s.channelAt k).index with
  | some r => r.segment == g
  | none => false

/-- The record a channel is bound to lies on a marked segment. -/
def State.onMap (s : State) (k : Nat) (m : SegMap) : Bool :=
  match s.record? (s.channelAt k).index with
  | some r => marked m r.segment
  | none => false

/-- The lowest-numbered FREE channel (R110). -/
def State.freeChannel? (s : State) : Option Nat := allChannels.find? fun k => !s.bound k

/-- The channel bound to the record in a slot (R66, R122). -/
def State.channelOf? (s : State) (i : Nat) : Option Nat :=
  allChannels.find? fun k => s.bound k && (s.channelAt k).index == i

/-- A channel queues an order for its binding: its number, generation, and the record's segment and address (R111,
R131). -/
def State.queueOrder (s : State) (kind : OrderKind) (k : Nat) : State :=
  match s.record? (s.channelAt k).index with
  | some r =>
    s.writeOrder
      { kind := kind, channel := k, generation := (s.channelAt k).generation, segment := r.segment, address := r.address }
  | none => s

/-- The START order of a kind (R110). -/
def startOrder : Kind → OrderKind
  | .function => .startFunction
  | .duration => .startDuration

/-- A channel waiting in a state for an answer, its answer timer fresh (R108). -/
def State.waiting (s : State) (c : Channel) (state : ChannelState) : Channel :=
  { c with state := state, role := .answer, target := s.answerTime }

/-- The context of a channel at a binding (R110, steps 1 to 5). -/
def State.bindContext (s : State) (c : Channel) (i : Nat) (kind : Kind) (run : Nat) : Channel :=
  s.waiting
    { c with
      index := i
      kind := kind
      generation := (c.generation + 1) % 16
      runSeconds := run
      elapsed := 0
      started := false } .ordered

/-- Binding: channel `k` to the record `r` of slot `i` (R110). -/
def State.bind (s : State) (k i : Nat) (kind : Kind) (r : Record) : State :=
  (s.setChannel k (s.bindContext (s.channelAt k) i kind (runSecondsOf (s.figures r.cls) kind))).queueOrder
    (startOrder kind) k

/-! ### The close (R125) -/

/-- BEFORE_START or AFTER_START, by the started flag (R125). -/
def Channel.startDetail (c : Channel) : Detail := if c.started then .afterStart else .beforeStart

/-- The register's part of a close: the verdict is applied, or discarded and the record freed under retire pending; the
segment's active count falls (R25, R70, R125). -/
def State.registerClose (s : State) (c : Channel) (v : Verdict) (d : Option Detail) : State :=
  match s.record? c.index with
  | some r =>
    (if r.retirePending then s.freeRecord c.index r
     else
       s.applyVerdict c.index r
         { kind := c.kind, verdict := v, detail := d, elapsed := c.elapsed, run := c.runSeconds }).lowerActive r.segment
  | none => s

/-- The end of a halt: HALTING with no bound channel left becomes STOPPED, with a PROGRAMME notice (R164). -/
def State.haltEnd (s : State) : State :=
  if s.programme.state = .halting ∧ s.boundCount = 0 then
    ({ s with programme := { s.programme with state := .stopped } }).raiseProgramme
  else s

/-- The close of channel `k` with a verdict and its detail (R125). -/
def State.close (s : State) (k : Nat) (v : Verdict) (d : Option Detail) : State :=
  let c := s.channelAt k
  (((s.registerClose c v d).withdraw k c.generation).setChannel k { c with state := .free, role := .none }).haltEnd

/-- The close of channel `k` VOID, with the detail its started flag gives (R119, R123, R124). -/
def State.closeVoid (s : State) (k : Nat) : State := s.close k .void (some (s.channelAt k).startDetail)

/-! ### Halt mark, halt take, outage entry -/

/-- The halt mark of a channel (R123). -/
def Channel.takesHaltMark (c : Channel) : Bool :=
  match c.state with
  | .ordered => true
  | .running => true
  | .stopping => true
  | _ => false

/-- The halt mark at channel `k` when its record lies on a segment of the map (R123). -/
def State.haltMarkAt (m : SegMap) (s : State) (k : Nat) : State :=
  if (s.channelAt k).takesHaltMark && s.onMap k m then
    s.setChannel k { s.waiting (s.channelAt k) .aborting with path := .halt }
  else s

/-- The halt mark at every channel (R123). -/
def State.haltMark (s : State) (m : SegMap) : State := allChannels.foldl (State.haltMarkAt m) s

/-- Segments join the pending halt set in one event (R152): membership, halt mark, and the halt word when the mailbox is
FREE (R154). -/
def State.joinHalt (s : State) (m : SegMap) : State :=
  (({ s with pendingHalt := s.pendingHalt ||| m }).haltMark m).writeHaltWord

/-- The halt take at channel `k`: ABORTING with path HALT on a segment of the word closes VOID (R123, R155). -/
def State.haltTakeAt (m : SegMap) (s : State) (k : Nat) : State :=
  if (s.channelAt k).state = .aborting ∧ (s.channelAt k).path = .halt ∧ s.onMap k m = true then s.closeVoid k else s

/-- The outage entry at channel `k`: bound on the segment closes VOID (R124, R148). -/
def State.outageAt (g : Nat) (s : State) (k : Nat) : State :=
  if s.bound k && s.onSegment k g then s.closeVoid k else s

/-! ### Timers (R112 to R114) -/

/-- A bound channel at a second tick: elapsed seconds and timer target (R112). A timer whose target reaches 0 expires;
RUN_EXPIRY and ANSWER_EXPIRY handle it. -/
def Channel.ticked (c : Channel) : Channel :=
  if c.state = .free then c
  else
    { c with
      elapsed := if c.started then min 65535 (c.elapsed + 1) else c.elapsed
      target := if c.role = .none then c.target else c.target - 1 }

/-- The run timer has reached 0 and its expiry has not been handled (R113). -/
def Channel.runDue (c : Channel) : Bool := c.state == .running && c.role == .run && c.target == 0

/-- The answer timer has reached 0 and its expiry has not been handled (R114). -/
def Channel.answerDue (c : Channel) : Bool :=
  (c.state == .ordered || c.state == .stopping || c.state == .aborting) && c.role == .answer && c.target == 0

/-- Run expiry (R113): STOP is queued and the channel waits in STOPPING. -/
def State.expireRun (s : State) (k : Nat) : State :=
  if (s.channelAt k).runDue then
    (s.setChannel k (s.waiting (s.channelAt k) .stopping)).queueOrder .stop k
  else s

/-- The close of an answer expiry, by the channel's state (R114). -/
def State.answerClose (s : State) (k : Nat) : State :=
  let c := s.channelAt k
  match c.state with
  | .ordered => s.close k .noAnswer (some .beforeStart)
  | .stopping => s.close k .noAnswer (some .afterStart)
  | .aborting => if c.path = .halt then (s.closeVoid k).raise .linkStall 0 else s.closeVoid k
  | _ => s

/-- Answer expiry (R114). -/
def State.expireAnswer (s : State) (k : Nat) : State := if (s.channelAt k).answerDue then s.answerClose k else s

/-- The stall of the dispatch queue's head that the last tick found (R138). The tick was taken before whatever has
restarted the count since, so the notice is raised (notes/assumptions/6.md). -/
def State.raiseStall (s : State) : State :=
  if s.link.stallDue then
    ({ s with link := { s.link with stallLatch := true, stallDue := false } }).raise .linkStall 0
  else s

/-- The expiry of channel `k`, of either timer. -/
def State.expire (s : State) (k : Nat) : State := (s.expireAnswer k).expireRun k

/-- Nothing that the last second tick brought about is left to handle. -/
def State.calm (s : State) : Bool :=
  !s.link.stallDue && allChannels.all fun k => !(s.channelAt k).runDue && !(s.channelAt k).answerDue

/-- The stall and the expiries that belong to the last second tick and have not been taken as steps of their own: the
link's first, then the channels' in order (R112 to R114, R138; notes/assumptions/4.md and 5.md). -/
def State.settle (s : State) : State := if s.calm then s else allChannels.foldl State.expire s.raiseStall

/-! ### Reports (R115 to R119) -/

/-- The kinds of a report word (R132, 10.4); codes 6 and 7 are undefined. -/
inductive ReportKind where
  | started
  | refused
  | cutoff
  | lampFault
  | stopped
  | aborted
  deriving DecidableEq, Repr

/-- The report kind of a code. -/
def reportKindOf : Nat → Option ReportKind
  | 0 => some .started
  | 1 => some .refused
  | 2 => some .cutoff
  | 3 => some .lampFault
  | 4 => some .stopped
  | 5 => some .aborted
  | _ => none

/-- The detail of a REFUSED report; one that names none of the three is applied as NOT_PRESENT (R75, R116). -/
def refusedDetail (code : Nat) : Detail :=
  match code with
  | 1 => .notCharged
  | 3 => .localTest
  | _ => .notPresent

/-- A report is matched (R115): its kind defined, its channel bound, its generation and its record's address equal. -/
def State.matched (s : State) (p : Report) : Bool :=
  (reportKindOf p.kind).isSome && s.bound p.channel && p.generation == (s.channelAt p.channel).generation
    && (match s.record? (s.channelAt p.channel).index with
        | some r => r.address == p.address
        | none => false)

/-- A stale report raises STALE_REPORT and changes nothing else (R115). -/
def State.stale (s : State) : State := s.raise .staleReport 0

/-- An accepted STARTED: RUNNING with the run timer, and the start mark (R116, R67). -/
def State.startRun (s : State) (k : Nat) : State :=
  let c := s.channelAt k
  (s.setChannel k
    { c with state := .running, started := true, role := .run, target := c.runSeconds }).startMark c.index

/-- The close of a CUTOFF, by the comparison of R57 (R117, R118). -/
def State.closeCutoff (s : State) (k : Nat) : State :=
  let c := s.channelAt k
  s.close k (if c.runSeconds ≤ c.elapsed then .pass else .failCutoff) none

/-- The verdict of a STOPPED report: PASS_LOW for a duration test with the low-battery code, PASS otherwise (R118). -/
def stoppedVerdict (kind : Kind) (detail : Nat) : Verdict :=
  if kind = .duration ∧ detail = 1 then .passLow else .pass

/-- A matched report judged against the channel's state (R116 to R119, the table of R115). -/
def State.judgeReport (s : State) (k : Nat) (kind : ReportKind) (detail : Nat) : State :=
  match (s.channelAt k).state, kind with
  | .ordered, .started => s.startRun k
  | .ordered, .refused => s.close k .refused (some (refusedDetail detail))
  | .running, .cutoff => s.closeCutoff k
  | .running, .lampFault => s.close k .failLamp none
  | .stopping, .stopped => s.close k (stoppedVerdict (s.channelAt k).kind detail) none
  | .stopping, .cutoff => s.closeCutoff k
  | .stopping, .lampFault => s.close k .failLamp none
  | .aborting, _ => s.closeVoid k
  | _, _ => s.stale

/-- A report that reaches the channel block (R115). -/
def State.receiveReport (s : State) (p : Report) : State :=
  if s.matched p then
    match reportKindOf p.kind with
    | some kind => s.judgeReport p.channel kind p.detail
    | none => s.stale
  else s.stale

end Sys2Proof.Machine
end

