-- ==== Sys2Proof/Machine/PlannerOps.lean ====
section
/-! DEFINITION. The planner (chapter 05): the course of a pass, the evaluation of a visited record, the candidate lists,
and the checks of a trial. -/

namespace Sys2Proof.Machine

/-- A pass is in progress (R85). -/
def PassPhase.inProgress : PassPhase → Bool
  | .idle => false
  | _ => true

/-- A record is in a scope (R89). -/
def SweepScope.includes (sc : SweepScope) (r : Record) : Bool :=
  match sc with
  | .all => true
  | .zone z => r.zone == z

/-- A pass starts (R88). -/
def State.startPass (s : State) : State :=
  { s with
    planner :=
      { s.planner with phase := .visiting, passScope := s.planner.scope, cursor := 0, working := [], tally := 0 } }

/-- The planner at a clock advance: in REPEAT mode with no pass in progress, a pass starts (R88). -/
def State.advancePlanner (s : State) : State :=
  if s.planner.mode = .repeating ∧ s.planner.phase = .idle then s.startPass else s

/-- A pass in progress is abandoned by SET SWEEP to OFF (R92): in VISITING its list and tally are discarded. -/
def Planner.abandoned (p : Planner) : Planner :=
  match p.phase with
  | .idle => p
  | .visiting => { p with phase := .idle, working := [], tally := 0 }
  | .dispatching => { p with phase := .idle }

/-- The record the cursor finds: the lowest index at or above it that is in the pass scope (R89). -/
def State.nextVisit? (s : State) : Option (Nat × Record) :=
  s.luminaires.find? fun e => decide (s.planner.cursor ≤ e.1) && s.planner.passScope.includes e.2

/-! ### Evaluating a record (R93 to R97) -/

/-- Either kind of the record is overdue (R93). -/
def State.overdueRecord (s : State) (r : Record) : Bool :=
  let f := s.figures r.cls
  isOverdue f r .function s.now || isOverdue f r .duration s.now

/-- READY, with no hold, in a zone that is not held: what eligibility and revalidation share (R94, R102). -/
def State.free (s : State) (r : Record) : Bool :=
  r.state == .ready && r.hold.isNone && !(s.zoneAt r.zone).held

/-- A kind of a record is open at the clock (R50). -/
def State.kindOpen (s : State) (r : Record) (k : Kind) : Bool := isOpen (s.figures r.cls) r k s.now

/-- The record is eligible (R94). -/
def State.eligible (s : State) (r : Record) : Bool :=
  s.free r && (s.kindOpen r .function || s.kindOpen r .duration || r.requested.isSome)

/-- The span of a kind of the record fits at the clock for the record's zone (R43, R96). -/
def State.kindFits (s : State) (r : Record) (k : Kind) : Bool :=
  s.fits r.zone s.now (spanOf (s.figures r.cls) k)

/-- The kind chosen for an eligible record (R95). -/
def State.chosenKind (s : State) (r : Record) : Kind :=
  match r.requested with
  | some .duration => .duration
  | some .function => if s.kindOpen r .duration then .duration else .function
  | none => if s.kindOpen r .duration then .duration else .function

/-- The kind a visit offers for an eligible record, if any (R96). -/
def State.offeredKind (s : State) (r : Record) : Option Kind :=
  match r.requested, s.chosenKind r with
  | some .duration, _ => if s.kindFits r .duration then some .duration else none
  | some .function, .duration => if s.kindFits r .duration then some .duration else some .function
  | some .function, .function => some .function
  | none, .duration =>
    if s.kindFits r .duration then some .duration
    else if s.kindOpen r .function && s.kindFits r .function then some .function
    else none
  | none, .function => if s.kindFits r .function then some .function else none

/-- The entry a visit of an eligible record offers (R97). -/
def State.entryFor (s : State) (i : Nat) (r : Record) : Option Candidate :=
  if s.eligible r then
    (s.offeredKind r).map fun k =>
      { index := i, kind := k, requested := r.requested.isSome, deadline := deadlineMinute (s.figures r.cls) r k }
  else none

/-! ### The candidate lists (R98) -/

/-- Entry `a` stands before entry `b`: requested first, then deadline, then index (R98). -/
def Candidate.before (a b : Candidate) : Bool :=
  if a.requested != b.requested then a.requested
  else if a.deadline != b.deadline then decide (a.deadline < b.deadline)
  else decide (a.index < b.index)

/-- Places an entry at the position its keys give it. -/
def placeCandidate (c : Candidate) : List Candidate → List Candidate
  | [] => [c]
  | x :: l => if c.before x then c :: x :: l else x :: placeCandidate c l

/-- An entry joins a working list of at most 16 entries; the seventeenth is dropped (R98). -/
def joinWorking (c : Candidate) (l : List Candidate) : List Candidate :=
  (placeCandidate c l).take Config.candidateLimit

/-- The visit of the record `r` of slot `i` (R89, R93 to R98). -/
def State.visitRecord (s : State) (i : Nat) (r : Record) : State :=
  { s with
    planner :=
      { s.planner with
        cursor := i + 1
        tally := s.planner.tally + (if s.overdueRecord r then 1 else 0)
        working :=
          match s.entryFor i r with
          | some c => joinWorking c s.planner.working
          | none => s.planner.working } }

/-- The completion of a pass (R91). No entry of the new list has been tried, so the trial position is 0 whether or not a
dispatch phase follows (R85). -/
def State.completePass (s : State) : State :=
  let count := s.planner.tally
  let running := s.programme.state = .running
  let p : Planner :=
    { s.planner with
      published := s.planner.working.map fun c => { entry := c, outcome := .notTried }
      publishedOverdue := count
      working := []
      mode := if s.planner.mode = .single then .off else s.planner.mode
      phase := if running then .dispatching else .idle
      trialPosition := 0 }
  let t := ({ s with planner := p }).setOverdue count
  if s.planner.mode = .single then t.raiseProgramme else t

/-! ### Trials (R100 to R106) -/

/-- The revalidation of an entry against the record its slot holds now (R102). -/
def State.revalidates (s : State) (r : Record) (k : Kind) : Bool :=
  s.free r && (s.kindOpen r k || r.requested == some k)
    && ((k == .function && r.requested == some .function) || s.kindFits r k)

/-- The cover check of a zone (R53). -/
def State.coverPasses (s : State) (z : Nat) : Bool :=
  decide ((s.zoneAt z).uncovered < coverLimit (s.zoneAt z).population (s.zoneAt z).percent)

/-- The slot holds a READY record (R103). -/
def State.isReady (s : State) (i : Nat) : Bool :=
  match s.record? i with
  | some r => r.state == .ready
  | none => false

/-- The fourth to seventh checks, on the record (R103). -/
def State.recordChecks (s : State) (r : Record) : TrialOutcome :=
  let g := s.segmentAt r.segment
  if !(g.enabled && g.mains == .present) then .segmentDown
  else if !decide (g.active < g.cap) then .segmentFull
  else if !s.coverPasses r.zone then .zoneCover
  else if !r.neighbours.all s.isReady then .neighbour
  else .dispatched

/-- The outcome of a trial of an entry: the first check that fails, DISPATCHED where all pass (R101). -/
def State.trialOutcome (s : State) (e : Candidate) : TrialOutcome :=
  if !decide (s.link.reports.length < s.link.threshold) then .backlog
  else if s.freeChannel?.isNone then .noChannel
  else
    match s.record? e.index with
    | some r => if s.revalidates r e.kind then s.recordChecks r else .gone
    | none => .gone

/-- The dispatch of an entry whose checks have all passed (R104, steps 1 and 2). -/
def State.dispatch (s : State) (e : Candidate) : State :=
  match s.freeChannel?, s.record? e.index with
  | some k, some r => (s.bind k e.index e.kind r).dispatchMark e.index r
  | _, _ => s

/-- The pass ends: the phase becomes IDLE (R106). -/
def State.endPhase (s : State) : State := { s with planner := { s.planner with phase := .idle } }

/-- A published entry's outcome is written and the trial position raised; the last trial ends the phase (R100, R101,
R106). -/
def State.recordTrial (s : State) (pos : Nat) (e : PublishedEntry) (o : TrialOutcome) : State :=
  { s with
    planner :=
      { s.planner with
        published := s.planner.published.set pos { e with outcome := o }
        trialPosition := pos + 1
        phase := if s.planner.published.length ≤ pos + 1 then .idle else s.planner.phase } }

/-- A trial of the published entry at the trial position (R100). -/
def State.tryEntry (s : State) (e : PublishedEntry) : State :=
  let o := s.trialOutcome e.entry
  let t := if o = .dispatched then s.dispatch e.entry else s
  t.recordTrial s.planner.trialPosition e o

/-- One trial event of the dispatch phase (R100, R106). -/
def State.runTrial (s : State) : State :=
  if s.planner.phase = .dispatching then
    if s.programme.state = .running then
      match s.planner.published[s.planner.trialPosition]? with
      | some e => s.tryEntry e
      | none => s.endPhase
    else s.endPhase
  else s

end Sys2Proof.Machine
end

