-- ==== Sys2Proof/Machine/Layout.lean ====
section
/-! DEFINITION. The layouts of read data (10.4): bytes as the part sends them, most significant byte first. -/

namespace Sys2Proof.Machine

/-- One byte of a value. -/
def byte (n : Nat) : Byte := BitVec.ofNat 8 n

/-- A two-byte value, most significant byte first. -/
def be2 (n : Nat) : List Byte := [byte (n / 256), byte n]

/-- A four-byte value, most significant byte first. -/
def be4 (n : Nat) : List Byte := [byte (n / 16777216), byte (n / 65536), byte (n / 256), byte n]

/-- A flag byte. -/
def flagByte (b : Bool) : Byte := if b then 1 else 0

/-- A flag at a bit of a byte. -/
def bitAt (n : Nat) (b : Bool) : Nat := if b then 2 ^ n else 0

/-- All-ones bytes. -/
def ones (n : Nat) : List Byte := List.replicate n 0xFF#8

/-! ### The record image, 48 bytes -/

/-- Byte 7 of an image. -/
def imageFlags (r : Record) : Byte :=
  byte (bitAt 7 r.lastFunction.isSome + bitAt 6 r.lastDuration.isSome + bitAt 5 r.hold.isSome
    + bitAt 4 r.lastOutcome.isSome + bitAt 3 r.shortInterval + bitAt 2 r.retirePending
    + bitAt 1 (match r.lastOutcome with | some o => o.rehearsal | none => false))

/-- Bytes 10 to 21: six neighbour places, unused ones 65,535. -/
def imagePlaces (l : List Nat) : List Byte :=
  (List.range Config.neighbourLimit).flatMap fun n => be2 (l.getD n Config.noLuminaire)

/-- Bytes 38 to 47: the last outcome, zeros where it is absent. -/
def imageOutcome : Option LastOutcome → List Byte
  | some o =>
    [byte (o.kind.code * 16 + o.verdict.code), byte (detailCode o.detail)] ++ be4 o.closeMinute ++ be2 o.measured
      ++ be2 o.permille
  | none => List.replicate 10 0

/-- The image of an enrolled record. -/
def recordImage (i : Nat) (r : Record) : List Byte :=
  be2 i ++ [byte r.state.code, byte r.segment, byte r.address, byte r.zone, byte r.cls, imageFlags r,
      byte (requestedCode r.requested * 16 + r.noAnswer), byte r.neighbours.length]
    ++ imagePlaces r.neighbours ++ be4 r.enrolMinute ++ be4 (r.lastFunction.getD 0) ++ be4 (r.lastDuration.getD 0)
    ++ be4 (r.hold.getD 0) ++ imageOutcome r.lastOutcome

/-- The image of a FREE slot: state code 7 and every other byte 0 beyond the index (R173). -/
def freeImage (i : Nat) : List Byte := be2 i ++ [byte 7] ++ List.replicate 45 0

/-- An end marker: index 65,535 and every other byte all-ones (R173). -/
def endMarker : List Byte := ones 48

/-! ### Status and the fixed-length reads -/

/-- BUSY is set while an action is in hand (R167, R168). -/
def State.busy (s : State) : Bool := s.port.inHand.isSome

/-- The four status bytes (10.4). -/
def State.statusBytes (s : State) : List Byte :=
  [byte (bitAt 7 s.busy + bitAt 6 s.port.dropped + bitAt 5 s.attentionPending + bitAt 4 s.clock.isSet
      + s.programme.state.code * 4 + bitAt 1 s.planner.phase.inProgress),
    byte s.port.lastResult.code, byte s.link.reports.length, byte s.boundCount]

/-- READ CLOCK; while the clock is UNSET it returns value 0, UNSET and second count 0 (R32). -/
def State.clockData (s : State) : List Byte :=
  if s.clock.isSet then be4 s.clock.value ++ [1, byte s.clock.seconds] else be4 0 ++ [0, 0]

/-- FIND ADDRESS (R16). -/
def State.findData (s : State) (segment address : Nat) : List Byte :=
  be2 (if segment < Config.segmentCount then (s.locate segment address).getD Config.noLuminaire else Config.noLuminaire)

/-- The nine figures in the sizes WRITE CLASS carries them. -/
def figureBytes (f : Figures) : List Byte :=
  be2 f.functionLength ++ be2 f.ratedDuration ++ be2 f.functionInterval ++ be2 f.durationInterval
    ++ [byte f.earlyWindow, byte f.grace, byte f.rechargeFactor] ++ be2 f.rechargeMin ++ be2 f.rechargeMax

/-- READ CLASS; a class above 15 or an undefined one is returned undefined with figures 0 (R175). -/
def State.classData (s : State) (c : Nat) : List Byte :=
  if c < Config.classCount then
    flagByte (s.classAt c).figures.isSome :: figureBytes (s.classAt c).read
  else flagByte false :: figureBytes Figures.absent

/-- READ ZONE. -/
def State.zoneData (s : State) (z : Nat) : List Byte :=
  let e := s.zoneAt z
  [flagByte e.isDefined, byte e.profile, byte e.percent, flagByte e.held] ++ be2 e.population ++ be2 e.uncovered

/-- READ SEGMENT; a segment above 15 returns all-ones bytes (R175). -/
def State.segmentData (s : State) (g : Nat) : List Byte :=
  if g < Config.segmentCount then
    let e := s.segmentAt g
    [flagByte e.enabled, byte e.cap, byte e.active, byte e.mains.code, flagByte e.outageStart.isSome]
      ++ be4 (e.outageStart.getD 0) ++ [flagByte (marked s.pendingHalt g)]
  else ones 10

/-- READ PROFILE; a profile above 31 returns every slot CLOSED (R41). -/
def State.profileData (s : State) (p : Nat) : List Byte :=
  slotsBytes (if p < Config.profileCount then s.profileAt p else 0)

/-- An exception as ADD EXCEPTION carries it, 11 bytes. -/
def exceptionBytes (e : CalendarException) : List Byte :=
  be4 e.start ++ be4 e.stop ++ [byte e.scope.code, byte e.scope.index, flagByte e.opens]

/-- READ EXCEPTIONS (R41). -/
def State.exceptionData (s : State) : List Byte :=
  byte s.exceptions.length :: s.exceptions.flatMap exceptionBytes

/-- A channel context, 14 bytes. -/
def channelBytes (c : Channel) : List Byte :=
  [byte c.state.code] ++ be2 c.index ++ [byte c.kind.code, byte c.generation, flagByte c.started] ++ be2 c.runSeconds
    ++ be2 c.elapsed ++ [byte c.role.code] ++ be2 c.target ++ [byte c.path.code]

/-- READ CHANNELS (R109). -/
def State.channelData (s : State) : List Byte := allChannels.flatMap fun k => channelBytes (s.channelAt k)

/-- A published entry, 9 bytes. -/
def publishedBytes (e : PublishedEntry) : List Byte :=
  be2 e.entry.index ++ [byte e.entry.kind.code, flagByte e.entry.requested] ++ be4 e.entry.deadline
    ++ [byte e.outcome.code]

/-- READ CANDIDATES (R99). -/
def State.candidateData (s : State) : List Byte :=
  [byte s.planner.mode.code, byte s.planner.scope.code, byte s.planner.scope.zoneIndex, byte s.planner.phase.code]
    ++ be2 s.planner.publishedOverdue ++ [byte s.planner.published.length]
    ++ s.planner.published.flatMap publishedBytes

/-- READ ATTENTION: the cause number and its carried value, 0 and 0 where no cause is pending (R181). -/
def State.attentionData (s : State) : List Byte :=
  match s.chosenCause with
  | some c => byte c.number :: be2 (s.causeAt c).carried
  | none => byte 0 :: be2 0

/-! ### Walks (R173, R174) -/

/-- A record is a member of a walk's filter. -/
def WalkFilter.member (f : WalkFilter) (r : Record) : Bool :=
  match f with
  | .all => true
  | .zone z => r.zone == z
  | .state c => r.state.code == c

/-- The lowest member with an index in `lo..hi-1`. -/
def State.memberIn (s : State) (f : WalkFilter) (lo hi : Nat) : Option (Nat × Record) :=
  s.luminaires.find? fun e => decide (lo ≤ e.1) && decide (e.1 < hi) && f.member e.2

/-- The index after `i`, 0 after 4,095. -/
def nextIndex (i : Nat) : Nat := if Config.slotCount ≤ i + 1 then 0 else i + 1

/-- The first member from `next` upwards, wrapping once and stopping at `start` (R173). Where `first` is set the walk has
examined nothing yet, and the start index is examined first (R174). -/
def State.examine (s : State) (c : WalkCursor) (first : Bool) : Option (Nat × Record) :=
  if first || decide (c.start < c.next) then
    (s.memberIn c.filter c.next Config.slotCount).or (s.memberIn c.filter 0 c.start)
  else s.memberIn c.filter c.next c.start

/-- Samples a walk's image: a member's and the cursor past it, or an end marker with the walk exhausted (R173). -/
def State.sampleMember (s : State) (c : WalkCursor) (first : Bool) : State :=
  match s.examine c first with
  | some (i, r) =>
    { s with port := { s.port with walk := some { c with next := nextIndex i }, output := recordImage i r } }
  | none => { s with port := { s.port with walk := some { c with next := c.start }, output := endMarker } }

/-- Samples the end marker of a walk that has examined every index. -/
def State.sampleEnd (s : State) (c : WalkCursor) : State :=
  { s with port := { s.port with walk := some { c with next := c.start }, output := endMarker } }

/-- The first image of a walk of members (R174); a start index above 4,095 gives end markers. -/
def State.startWalk (s : State) (f : WalkFilter) (start : Nat) : State :=
  let c : WalkCursor := { filter := f, start := start, next := start }
  if start < Config.slotCount then s.sampleMember c true else s.sampleEnd c

/-- The first image of READ RECORD: the slot at the start index, enrolled or FREE (R173). -/
def State.startRecordWalk (s : State) (start : Nat) : State :=
  if start < Config.slotCount then
    { s with
      port :=
        { s.port with
          walk := some { filter := .all, start := start, next := nextIndex start }
          output :=
            match s.record? start with
            | some r => recordImage start r
            | none => freeImage start } }
  else s.sampleEnd { filter := .all, start := start, next := start }

/-- A further image of the walk in progress (R173, R174). -/
def State.nextImage (s : State) : State :=
  match s.port.walk with
  | some c => if c.next = c.start then s.sampleEnd c else s.sampleMember c false
  | none => s

end Sys2Proof.Machine
end

