-- ==== Sys2Proof/Machine/Time.lean ====
section
/-! DEFINITION. The clock advance and its four owners (R28), and the second tick (R27, R112, R138). -/

namespace Sys2Proof.Machine

/-- Programme control at a clock advance to `v`: a timed resume (R162). -/
def State.timedResume (s : State) (v : Nat) : State :=
  match s.programme.resumeMinute with
  | some m =>
    if s.programme.state = .suspended ∧ m ≤ v then
      ({ s with programme := { state := .running, resumeMinute := none } }).raiseProgramme
    else s
  | none => s

/-- One clock advance to value `v`, already written: holds, exceptions, planner, programme (R28). -/
def State.clockAdvance (s : State) (v : Nat) : State :=
  (((s.releaseHolds v).expireExceptions v).advancePlanner).timedResume v

/-- The clock takes a value, with one clock advance (R28). -/
def State.setValue (s : State) (v : Nat) : State :=
  ({ s with clock := { s.clock with value := v } }).clockAdvance v

/-- The clock at a second tick (R27). -/
def State.tickClock (s : State) : State :=
  if s.clock.isSet then
    if 59 ≤ s.clock.seconds then
      ({ s with clock := { s.clock with seconds := 0 } }).setValue (satAdd s.clock.value 1)
    else { s with clock := { s.clock with seconds := s.clock.seconds + 1 } }
  else s

/-- The channels at a second tick (R112). -/
def State.tickChannels (s : State) : State :=
  { s with channels := s.channels.mapD Channel.reset Channel.ticked }

/-- The link at a second tick: the stall count rises, and reaching the answer time with the latch clear makes a stall
due (R138). -/
def State.tickLink (s : State) : State :=
  if s.link.configured && !s.link.dispatch.isEmpty then
    let count := min 600 (s.link.stallCount + 1)
    { s with
      link :=
        { s.link with
          stallCount := count
          stallDue := decide (s.answerTime ≤ count) && !s.link.stallLatch } }
  else s

/-- A second tick: the clock, the bound channels and the link (R27, R112, R138; the order is notes/assumptions/5.md). -/
def State.tick (s : State) : State := s.tickClock.tickChannels.tickLink

end Sys2Proof.Machine
end

