-- ==== Sys2Proof/Machine/Port.lean ====
section
/-! DEFINITION. The host port's part in every command (R166 to R170, R177): the execution of an action, the serving of a
read, an event of another block, the accept, and the part reset. Every command but RUN_EXPIRY, ANSWER_EXPIRY, STALL
and the part resets first takes what the last second tick left to handle (`settle`). -/

namespace Sys2Proof.Machine

/-- An action's result and the end of its execution: last result written, nothing in hand, BUSY clear (R168). -/
def State.finish (s : State) (r : Result) : State :=
  { s with port := { s.port with lastResult := r, inHand := none } }

/-- An action sent while the port is BUSY is dropped (R167, R169). -/
def State.drop (s : State) : State := { s with port := { s.port with dropped := true } }

/-- The action may be executed now: it is the one in hand, or none is in hand and it is accepted and executed at once
(notes/assumptions/3.md). -/
def State.admits (s : State) (c : Instr) : Bool := s.port.inHand == none || s.port.inHand == some c

/-- The execution of an action (R168); an action other than the one in hand is dropped (R167). -/
def carryOut (c : Instr) (effect : State → State × Result) (s : State) : Out :=
  let t := s.settle
  if t.admits c then .next ((effect t).1.finish (effect t).2) else .next t.drop

/-- An event of a block of the part, of the concentrator or of the oscillator. -/
def event (effect : State → State) (s : State) : Out := .next (effect s.settle)

/-- A transaction other than a READ STATUS is in progress, or none is: the one before it has ended (R166). -/
def State.leaveStatus (s : State) : State := { s with port := { s.port with statusRead := false } }

/-- The bytes a read returns, sampled whole. -/
def State.send (s : State) (bytes : List Byte) : State := { s with port := { s.port with output := bytes } }

/-- A read at its take (R170): refused silently while BUSY, its data bytes all-ones; served otherwise. -/
def State.serve (s : State) (data : State → State) : State := if s.busy then s.send [] else data s

/-- The take of a read other than READ STATUS and READ ATTENTION (R170). -/
def readTake (data : State → State) (s : State) : Out := event (fun t => t.leaveStatus.serve data) s

/-- A read of fixed length: one sample at the take, no effect on any other state (R170, R175). -/
def readWhole (data : State → List Byte) (s : State) : Out := readTake (fun t => t.send (data t)) s

/-! ### The bytes the part sends -/

/-- A data byte of the item last sampled: past the sampled bytes the part sends all-ones (R170). -/
def State.dataByte (s : State) (n : Nat) : Byte := s.port.output.getD n 0xFF#8

/-- How many bytes the host clocks before a read with `count` argument bytes is taken, under the turnaround as it stands
when the command code is complete: the code, the arguments and the turnaround (R170, R171). -/
def State.bytesBeforeTake (s : State) (count : Nat) : Nat := 1 + count + s.port.turnaround

/-- Byte `n` that the part sends in a transaction whose first `before` bytes are the code, the arguments and the
turnaround: all-ones among those, then the data bytes of the first item (R166, R170). -/
def State.sentByte (s : State) (before n : Nat) : Byte := if n < before then 0xFF#8 else s.dataByte (n - before)

/-! ### Part reset and accept -/

/-- A part reset (R177): every block takes its reset values. A transaction in progress is abandoned (R166): no data is
left to send, no walk and no READ STATUS goes on, and its end is no accept (`State.acceptTransaction`). The commands
that wait in the queue are the outside world's and still come (notes/assumptions/18.md). -/
def State.partReset (s : State) : State := { State.reset with pending := s.pending }

/-- An action or undefined transaction of the wrong length or form (R167). -/
def State.malformed (s : State) : State := { s with port := { s.port with lastResult := .malformed } }

/-- The accept of a transaction that is neither empty nor a read (R167). `action` is the action its bytes spell, if they
are an action's bytes of the right length with no partial byte. -/
def State.acceptAs (s : State) (action : Option Instr) : State :=
  match action with
  | some .resetPart => s.partReset
  | some c => if s.busy then s.drop else { s with port := { s.port with inHand := some c } }
  | none => if s.busy then s.drop else s.malformed

/-- The accept of a transaction's complete bytes (R166, R167): with no complete byte it has no class, and a read is not
accepted. -/
def State.acceptBytes (s : State) (bytes : List Byte) (whole : Bool) : State :=
  match bytes with
  | [] => s
  | code :: args =>
    match codeClass code with
    | .read _ => s
    | .action count => s.acceptAs (if args.length = count ∧ whole = true then decodeAction code args else none)
    | .undefined => s.acceptAs none

/-- The rise of select that ends a transaction (R166, R167); that of an abandoned one accepts nothing. -/
def State.acceptTransaction (s : State) (bytes : List Byte) (ending : TransactionEnd) : State :=
  match ending with
  | .whole => s.acceptBytes bytes true
  | .midByte => s.acceptBytes bytes false
  | .abandoned => s

end Sys2Proof.Machine
end

