-- ==== Sys2Proof/Machine/TestStateCommands.lean ====
section
/-! DEFINITION. Requests, repair and revival (chapter 04, R80 to R83). -/

namespace Sys2Proof.Machine

/-- A command on the record of a slot: OUT_OF_RANGE above 4,095, NOT_ENROLLED at a FREE slot, else its own conditions. -/
def onRecord (slot : Half) (effect : State → Nat → Record → State × Result) (s : State) : State × Result :=
  if Config.slotCount ≤ slot.toNat then (s, .outOfRange)
  else
    match s.record? slot.toNat with
    | none => (s, .notEnrolled)
    | some r => effect s slot.toNat r

/-- REQUEST TEST (R80), the kind coded as a test kind (notes/assumptions/12.md). -/
def requestTestEffect (slot : Half) (kind : Byte) (s : State) : State × Result :=
  match kindOfCode kind with
  | none => (s, .outOfRange)
  | some k =>
    onRecord slot
      (fun s i r =>
        if r.retirePending then (s, .wrongState)
        else if r.requested = some k then (s, .noEffect)
        else (s.setRecord i { r with requested := some k }, .done)) s

def execRequestTest (slot : Half) (kind : Byte) (s : State) : Out :=
  carryOut (.requestTest slot kind) (requestTestEffect slot kind) s

/-- CANCEL REQUEST (R81). -/
def cancelRequestEffect (slot : Half) : State → State × Result :=
  onRecord slot fun s i r =>
    if r.retirePending then (s, .wrongState)
    else if r.requested = none then (s, .noEffect)
    else (s.setRecord i { r with requested := none }, .done)

def execCancelRequest (slot : Half) (s : State) : Out := carryOut (.cancelRequest slot) (cancelRequestEffect slot) s

/-- ACCEPT REPAIR (R82). -/
def acceptRepairEffect (slot : Half) : State → State × Result :=
  onRecord slot fun s i r =>
    if r.state = .faulty then
      (s.transition i r { r with state := .ready, hold := none, requested := some .duration }, .done)
    else (s, .noEffect)

def execAcceptRepair (slot : Half) (s : State) : Out := carryOut (.acceptRepair slot) (acceptRepairEffect slot) s

/-- REVIVE (R83). -/
def reviveEffect (slot : Half) : State → State × Result :=
  onRecord slot fun s i r =>
    if r.state = .silent then (s.transition i r { r with state := .ready, hold := none, noAnswer := 0 }, .done)
    else (s, .noEffect)

def execRevive (slot : Half) (s : State) : Out := carryOut (.revive slot) (reviveEffect slot) s

end Sys2Proof.Machine
end

