-- ==== Sys2Proof/Machine/ChannelSteps.lean ====
section
/-! DEFINITION. The test channels' commands and steps (chapter 06): ABORT TEST, SET TIMING, run and answer expiry, and
the report take. -/

namespace Sys2Proof.Machine

/-- ABORT TEST at the bound channel `k` (R122). -/
def State.abortChannel (s : State) (k : Nat) : State :=
  (s.setChannel k { s.waiting (s.channelAt k) .aborting with path := .order }).queueOrder .abort k

/-- ABORT TEST (R122). -/
def abortTestEffect (slot : Half) : State → State × Result :=
  onRecord slot fun s i _ =>
    match s.channelOf? i with
    | none => (s, .wrongState)
    | some k =>
      if (s.channelAt k).state = .stopping ∨ (s.channelAt k).state = .aborting then (s, .noEffect)
      else (s.abortChannel k, .done)

def execAbortTest (slot : Half) (s : State) : Out := carryOut (.abortTest slot) (abortTestEffect slot) s

/-- SET TIMING (R108). -/
def setTimingEffect (seconds : Half) (s : State) : State × Result :=
  ({ s with answerTime := clampTo 10 600 seconds.toNat }, doneOr (clamps 10 600 seconds.toNat))

def execSetTiming (seconds : Half) (s : State) : Out := carryOut (.setTiming seconds) (setTimingEffect seconds) s

/-- The run timer of a channel expires (R113). The step belongs to the tick that brought the timer to 0, so it takes
nothing else of that tick (notes/assumptions/4.md). -/
def execRunExpiry (channel : Nat) (s : State) : Out := .next (s.expireRun channel)

/-- The answer timer of a channel expires (R114). -/
def execAnswerExpiry (channel : Nat) (s : State) : Out := .next (s.expireAnswer channel)

/-- The report take (R140): a report that fails its check is discarded with LINK_CHECK, one that passes goes to the
channel block. -/
def State.takeReport (s : State) : State :=
  match s.link.reports with
  | [] => s
  | w :: rest =>
    let t := { s with link := { s.link with reports := rest } }
    if queueWordPasses s.link.sense w then t.receiveReport (reportOf w) else t.raise .linkCheck 0

def execReportTake (s : State) : Out := event State.takeReport s

end Sys2Proof.Machine
end

