-- ==== Sys2Proof/Machine/ClockCommands.lean ====
section
/-! DEFINITION. Campus clock and calendars (chapter 02): SET CLOCK, TRIM CLOCK, WRITE PROFILE, ADD EXCEPTION, DROP
EXCEPTION and the second tick. -/

namespace Sys2Proof.Machine

/-- SET CLOCK (R29). -/
def setClockEffect (minute : Word) (s : State) : State × Result :=
  if s.programme.state ≠ .stopped then (s, .wrongState)
  else
    (({ s with clock := { value := minute.toNat, isSet := true, seconds := 0 } }).clockAdvance minute.toNat, .done)

def execSetClock (minute : Word) (s : State) : Out := carryOut (.setClock minute) (setClockEffect minute) s

/-- The amount of a TRIM CLOCK clamped to -30..30 (R30). -/
def trimAmount (amount : Byte) : Int := max (-30) (min amount.toInt 30)

/-- A minute moved by an amount, held at 0 below and at the last minute above (R30). -/
def moveMinute (v : Nat) (amount : Int) : Nat := min ((v : Int) + amount).toNat Config.maxMinute

/-- TRIM CLOCK (R30). -/
def trimClockEffect (amount : Byte) (s : State) : State × Result :=
  if s.clock.isSet = false then (s, .clockUnset)
  else
    let v := moveMinute s.clock.value (trimAmount amount)
    let clamped := decide (trimAmount amount ≠ amount.toInt)
    if v = s.clock.value then (s, if clamped then .doneClamped else .noEffect)
    else (s.setValue v, doneOr clamped)

def execTrimClock (amount : Byte) (s : State) : Out := carryOut (.trimClock amount) (trimClockEffect amount) s

/-- WRITE PROFILE (R35). -/
def writeProfileEffect (profile : Byte) (slots : Slots) (s : State) : State × Result :=
  if Config.profileCount ≤ profile.toNat then (s, .outOfRange) else (s.setProfile profile.toNat slots, .done)

def execWriteProfile (profile : Byte) (slots : Slots) (s : State) : Out :=
  carryOut (.writeProfile profile slots) (writeProfileEffect profile slots) s

/-- The entry an ADD or DROP EXCEPTION carries; none where a code or index is out of range (R37, R38). -/
def exceptionOf (start stop : Word) (scope index effect : Byte) : Option CalendarException :=
  match exceptionScopeOf scope index, opensOfCode effect with
  | some sc, some o => some { start := start.toNat, stop := stop.toNat, scope := sc, opens := o }
  | _, _ => none

/-- ADD EXCEPTION (R37). -/
def addExceptionEffect (start stop : Word) (scope index effect : Byte) (s : State) : State × Result :=
  match exceptionOf start stop scope index effect with
  | none => (s, .outOfRange)
  | some e =>
    if e.stop ≤ e.start then (s, .outOfRange)
    else if e ∈ s.exceptions then (s, .duplicate)
    else if Config.exceptionLimit ≤ s.exceptions.length then (s, .listFull)
    else if s.clock.isSet = true ∧ e.stop ≤ s.clock.value then (s, .noEffect)
    else ({ s with exceptions := placeException e s.exceptions }, .done)

def execAddException (start stop : Word) (scope index effect : Byte) (s : State) : Out :=
  carryOut (.addException start stop scope index effect) (addExceptionEffect start stop scope index effect) s

/-- DROP EXCEPTION (R38). -/
def dropExceptionEffect (start stop : Word) (scope index effect : Byte) (s : State) : State × Result :=
  match exceptionOf start stop scope index effect with
  | none => (s, .outOfRange)
  | some e =>
    if e ∈ s.exceptions then ({ s with exceptions := s.exceptions.erase e }, .done) else (s, .notFound)

def execDropException (start stop : Word) (scope index effect : Byte) (s : State) : Out :=
  carryOut (.dropException start stop scope index effect) (dropExceptionEffect start stop scope index effect) s

/-- A second tick (R27). -/
def execSecondTick (s : State) : Out := event State.tick s

end Sys2Proof.Machine
end

