-- ==== Sys2Proof/Machine/LinkSteps.lean ====
section
/-! DEFINITION. The segment link's commands and steps (chapter 07): CONFIGURE LINK, the stall, the concentrator's takes
and writes, and the loopback take. -/

namespace Sys2Proof.Machine

/-- The link after a CONFIGURE LINK (R130, steps 1 to 6): with loopback ON the inbound mailbox holds a word reporting
every segment PRESENT. -/
def configured (sense : CheckSense) (threshold : Nat) (loopback : Bool) : Link :=
  { configured := true
    sense := sense
    threshold := threshold
    loopback := loopback
    dispatch := []
    reports := []
    haltBox := none
    mainsBox := if loopback then some (boxWord sense 0xFFFF#16) else none
    stallCount := 0
    stallLatch := false
    stallDue := false }

/-- CONFIGURE LINK (R130); a pending halt set that is not empty is then written as the next halt word (R154). -/
def configureLinkEffect (sense threshold loopback : Byte) (s : State) : State × Result :=
  match senseOfCode sense, thresholdOfCode threshold, loopbackOfCode loopback with
  | some c, some t, some l =>
    if s.programme.state ≠ .stopped then (s, .wrongState)
    else (({ s with link := configured c t l }).writeHaltWord, .done)
  | _, _, _ => (s, .outOfRange)

def execConfigureLink (sense threshold loopback : Byte) (s : State) : Out :=
  carryOut (.configureLink sense threshold loopback) (configureLinkEffect sense threshold loopback) s

/-- The stall that the last second tick found (R138); it takes nothing else of that tick (notes/assumptions/4.md). -/
def execStall (s : State) : Out := .next s.raiseStall

/-- The concentrator takes the head order (R136); not accepted while UNCONFIGURED, in loopback, or with the queue
empty. -/
def State.takeOrder (s : State) : State :=
  match s.link.dispatch with
  | [] => s
  | o :: _ =>
    if s.link.configured = true ∧ s.link.loopback = false then
      { s.dropHead with line := { s.line with order := some (orderWord s.link.sense o) } }
    else s

def execOrderTake (s : State) : Out := event State.takeOrder s

/-- The answer of the link in loopback to an order (R144). -/
def loopbackAnswer (o : Order) : Report :=
  { kind :=
      match o.kind with
      | .startFunction => 0
      | .startDuration => 0
      | .stop => 4
      | .abort => 5
    channel := o.channel
    generation := o.generation
    detail := 0
    address := o.address }

/-- The loopback take (R144); it waits while the report queue holds 64 reports. -/
def State.takeLoopback (s : State) : State :=
  match s.link.dispatch with
  | [] => s
  | o :: _ =>
    if s.link.configured = true ∧ s.link.loopback = true ∧ s.link.reports.length < Config.reportLimit then
      let t := s.dropHead
      { t with link := { t.link with reports := t.link.reports ++ [reportWord s.link.sense (loopbackAnswer o)] } }
    else s

def execLoopbackTake (s : State) : Out := event State.takeLoopback s

/-- The concentrator writes a report (R139); refused while the queue holds 64, not accepted while UNCONFIGURED or in
loopback (R129). -/
def State.writeReport (w : QueueWord) (s : State) : State :=
  if s.link.configured = true ∧ s.link.loopback = false ∧ s.link.reports.length < Config.reportLimit then
    { s with link := { s.link with reports := s.link.reports ++ [w] } }
  else s

def execReportWrite (word : QueueWord) (s : State) : Out := event (State.writeReport word) s

/-- The concentrator writes a mains word (R143); ignored while the mailbox is FULL, not accepted while UNCONFIGURED or in
loopback (R129). -/
def State.writeMains (w : BoxWord) (s : State) : State :=
  if s.link.configured = true ∧ s.link.loopback = false ∧ s.link.mainsBox = none then
    { s with link := { s.link with mainsBox := some w } }
  else s

def execMainsWordWrite (word : BoxWord) (s : State) : Out := event (State.writeMains word) s

end Sys2Proof.Machine
end

