-- ==== Sys2Proof/Machine/MainsSteps.lean ====
section
/-! DEFINITION. Mains outages and segment halts (chapter 08): HALT SEGMENTS, the mains word take and the halt take. -/

namespace Sys2Proof.Machine

/-- HALT SEGMENTS (R153). -/
def haltSegmentsEffect (m : SegMap) (s : State) : State × Result :=
  if m = 0 then (s, .noEffect) else (s.joinHalt m, .done)

def execHaltSegments (segments : SegMap) (s : State) : Out :=
  carryOut (.haltSegments segments) (haltSegmentsEffect segments) s

/-- The mains state and outage start of a segment are written, and the change map gains it (R147, R150). -/
def State.mainsTransition (s : State) (g : Nat) (m : Mains) (outageStart : Option Nat) : State :=
  (s.setSegment g { s.segmentAt g with mains := m, outageStart := outageStart }).raiseMainsChange g

/-- The outage entry of a segment (R148). -/
def State.outageEntry (s : State) (g : Nat) : State :=
  allChannels.foldl (State.outageAt g) (s.mainsTransition g .absent (some s.now))

/-- The restore of a segment (R149). -/
def State.restore (s : State) (g : Nat) : State :=
  (s.mainsTransition g .present none).outageHolds g ((s.segmentAt g).outageStart.getD 0)

/-- What a mains word does to one segment (R147). -/
def State.mainsAt (m : SegMap) (s : State) (g : Nat) : State :=
  match (s.segmentAt g).mains, marked m g with
  | .unknown, true => s.mainsTransition g .present none
  | .unknown, false => s.outageEntry g
  | .present, false => s.outageEntry g
  | .absent, true => s.restore g
  | .present, true => s
  | .absent, false => s

/-- A mains word whose check has passed, at every segment (R147). -/
def State.applyMains (s : State) (m : SegMap) : State := allSegments.foldl (State.mainsAt m) s

/-- The mains word take (R143, R147): a word that fails its check is discarded with LINK_CHECK. -/
def State.takeMains (s : State) : State :=
  match s.link.mainsBox with
  | none => s
  | some w =>
    let t := { s with link := { s.link with mainsBox := none } }
    if boxWordPasses s.link.sense w then t.applyMains (mapOf w) else t.raise .linkCheck 0

def execMainsWordTake (s : State) : Out := event State.takeMains s

/-- The halt take (R142, R155): the channels of path HALT on the word's segments close, the mailbox is FREE, and the next
word is written if the pending halt set has members. In loopback the link takes the word and the concentrator receives
nothing (R145). While the link is UNCONFIGURED no take is accepted (R129). -/
def State.takeHalt (s : State) : State :=
  match s.link.haltBox with
  | none => s
  | some m =>
    if s.link.configured then
      let t :=
        { s with
          link := { s.link with haltBox := none }
          line := if s.link.loopback then s.line else { s.line with halt := some (boxWord s.link.sense m) } }
      (allChannels.foldl (State.haltTakeAt m) t).writeHaltWord
    else s

def execHaltTake (s : State) : Out := event State.takeHalt s

end Sys2Proof.Machine
end

