-- ==== Sys2Proof/Machine/PlannerSteps.lean ====
section
/-! DEFINITION. The planner's commands and steps (chapter 05): SET SWEEP, START SWEEP, visit, completion, trial. -/

namespace Sys2Proof.Machine

/-- SET SWEEP (R86, R92). -/
def setSweepEffect (mode scope zone : Byte) (s : State) : State × Result :=
  match sweepModeOfCode mode, sweepScopeOfCode scope zone with
  | some m, some sc =>
    if m ≠ .off ∧ s.clock.isSet = false then (s, .clockUnset)
    else if m = s.planner.mode ∧ sc = s.planner.scope ∧ s.planner.phase = .idle then (s, .noEffect)
    else
      let p := if m = .off then s.planner.abandoned else s.planner
      ({ s with planner := { p with mode := m, scope := sc } }, .done)
  | _, _ => (s, .outOfRange)

def execSetSweep (mode scope zone : Byte) (s : State) : Out :=
  carryOut (.setSweep mode scope zone) (setSweepEffect mode scope zone) s

/-- START SWEEP (R87). -/
def startSweepEffect (s : State) : State × Result :=
  if s.clock.isSet = false then (s, .clockUnset)
  else if s.planner.mode ≠ .single then (s, .wrongState)
  else if s.planner.phase ≠ .idle then (s, .inProgress)
  else (s.startPass, .done)

def execStartSweep (s : State) : Out := carryOut .startSweep startSweepEffect s

/-- A visit (R89); with no pass VISITING, or no record left in scope, there is none to make. -/
def State.visitNext (s : State) : State :=
  if s.planner.phase = .visiting then
    match s.nextVisit? with
    | some (i, r) => s.visitRecord i r
    | none => s
  else s

def execVisit (s : State) : Out := event State.visitNext s

/-- The completion of a pass (R91); while a record in scope is left, the pass is not complete. -/
def State.finishPass (s : State) : State :=
  if s.planner.phase = .visiting ∧ s.nextVisit? = none then s.completePass else s

def execPassCompletion (s : State) : Out := event State.finishPass s

/-- A trial (R100). -/
def execTrial (s : State) : Out := event State.runTrial s

end Sys2Proof.Machine
end

