-- ==== Sys2Proof/Machine/PortCommands.lean ====
section
/-! DEFINITION. The host port's own commands (chapters 10 and 11): SET TURNAROUND, SET ATTENTION LEVELS, the part resets
and the accept. -/

namespace Sys2Proof.Machine

/-- The turnaround a value is clamped to: 0 to 1, 3 to 4, above 4 to 4 (R171). -/
def turnaroundOf (n : Nat) : Nat := if n = 0 then 1 else if n ≤ 2 then n else 4

/-- SET TURNAROUND (R171). -/
def setTurnaroundEffect (bytes : Byte) (s : State) : State × Result :=
  ({ s with port := { s.port with turnaround := turnaroundOf bytes.toNat } },
    doneOr (decide (turnaroundOf bytes.toNat ≠ bytes.toNat)))

def execSetTurnaround (bytes : Byte) (s : State) : Out :=
  carryOut (.setTurnaround bytes) (setTurnaroundEffect bytes) s

/-- The level byte that the command carries for a cause (R182). -/
def levelByte (levels : List Byte) (c : Cause) : Nat := (levels.getD (c.number - 1) 0).toNat

/-- SET ATTENTION LEVELS (R182). -/
def setLevelsEffect (levels : List Byte) (s : State) : State × Result :=
  (Cause.all.foldl
      (fun acc c => acc.setCause c { acc.causeAt c with level := clampTo 0 7 (levelByte levels c) }) s,
    doneOr (Cause.all.any fun c => clamps 0 7 (levelByte levels c)))

def execSetAttentionLevels (levels : List Byte) (s : State) : Out :=
  carryOut (.setAttentionLevels levels) (setLevelsEffect levels) s

/-- RESET PART, at its accept, BUSY or not (R177). -/
def execResetPart (s : State) : Out := .next s.partReset

/-- Power-on or the reset pin (R177). -/
def execPartReset (s : State) : Out := .next s.partReset

/-- The accept (R167). -/
def execAccept (bytes : List Byte) (ending : TransactionEnd) (s : State) : Out :=
  event (fun t => t.leaveStatus.acceptTransaction bytes ending) s

end Sys2Proof.Machine
end

