-- ==== Sys2Proof/Machine/ProgrammeCommands.lean ====
section
/-! DEFINITION. Programme control's commands (chapter 09). -/

namespace Sys2Proof.Machine

/-- The programme START (R159). -/
def startEffect (s : State) : State × Result :=
  if s.programme.state ≠ .stopped then (s, .wrongState)
  else if s.clock.isSet = false then (s, .clockUnset)
  else if s.link.configured = false then (s, .linkUnconfigured)
  else ({ s with programme := { s.programme with state := .running } }, .done)

def execStart (s : State) : Out := carryOut .start startEffect s

/-- SUSPEND (R160). -/
def suspendEffect (flag : Byte) (minute : Word) (s : State) : State × Result :=
  if s.programme.state ≠ .running then (s, .noEffect)
  else
    ({ s with programme := { state := .suspended, resumeMinute := if flagOf flag then some minute.toNat else none } },
      .done)

def execSuspend (flag : Byte) (minute : Word) (s : State) : Out :=
  carryOut (.suspend flag minute) (suspendEffect flag minute) s

/-- RESUME (R161). -/
def resumeEffect (s : State) : State × Result :=
  if s.programme.state ≠ .suspended then (s, .noEffect)
  else ({ s with programme := { state := .running, resumeMinute := none } }, .done)

def execResume (s : State) : Out := carryOut .resume resumeEffect s

/-- The segments whose active count is above 0 (R163). -/
def State.activeSegments (s : State) : SegMap :=
  allSegments.foldl (fun m g => if 0 < (s.segmentAt g).active then m ||| markOf g else m) 0

/-- HALT (R163). -/
def haltEffect (s : State) : State × Result :=
  if s.programme.state = .stopped ∨ s.programme.state = .halting then (s, .noEffect)
  else if s.boundCount = 0 then ({ s with programme := { state := .stopped, resumeMinute := none } }, .done)
  else (({ s with programme := { state := .halting, resumeMinute := none } }).joinHalt s.activeSegments, .done)

def execHalt (s : State) : Out := carryOut .halt haltEffect s

end Sys2Proof.Machine
end

