-- ==== Sys2Proof/Machine/Reads.lean ====
section
/-! DEFINITION. The reads of the host port (R16, R32, R41, R99, R109, R170 to R175, R181). -/

namespace Sys2Proof.Machine

/-- The first sampling of a READ STATUS shows DROPPED as it stood and clears it (R172). -/
def State.sampleStatus (s : State) : State :=
  { s with port := { s.port with output := s.statusBytes, dropped := false, statusRead := true } }

/-- READ STATUS is served while BUSY (R172). -/
def execReadStatus (s : State) : Out := event State.sampleStatus s

/-- A further repetition of the status bytes of the READ STATUS in progress leaves DROPPED as it stands (R172). -/
def State.repeatStatus (s : State) : State := if s.port.statusRead then s.send s.statusBytes else s

def execStatusRepetition (s : State) : Out := event State.repeatStatus s

/-- READ ATTENTION: the cause is returned and, if a notice, cleared (R179, R181). -/
def State.sampleAttention (s : State) : State :=
  let t := s.send s.attentionData
  match s.chosenCause with
  | some c => t.clearRead c
  | none => t

/-- READ ATTENTION is served while BUSY (R170). -/
def execReadAttention (s : State) : Out := event (fun t => t.leaveStatus.sampleAttention) s

/-- READ CLOCK (R32). -/
def execReadClock (s : State) : Out := readWhole State.clockData s

/-- READ RECORD (R173). -/
def execReadRecord (start : Half) (s : State) : Out :=
  readTake (fun t => t.startRecordWalk start.toNat) s

/-- WALK ZONE (R174). -/
def execWalkZone (zone : Byte) (start : Half) (s : State) : Out :=
  readTake (fun t => t.startWalk (.zone zone.toNat) start.toNat) s

/-- WALK STATE (R174): a code that names no state has no member. -/
def execWalkState (code : Byte) (start : Half) (s : State) : Out :=
  readTake (fun t => t.startWalk (.state code.toNat) start.toNat) s

/-- The next image of a walk (R173). BUSY was looked at when the walk was taken (R170). -/
def execWalkNextImage (s : State) : Out := event State.nextImage s

/-- The walk cursor becomes idle. -/
def State.endWalk (s : State) : State := { s with port := { s.port with walk := none } }

/-- The rise of select ends a walk (R173). -/
def execWalkEnd (s : State) : Out := event State.endWalk s

/-- FIND ADDRESS (R16). -/
def execFindAddress (segment address : Byte) (s : State) : Out :=
  readWhole (fun t => t.findData segment.toNat address.toNat) s

/-- READ CLASS (R175). -/
def execReadClass (cls : Byte) (s : State) : Out := readWhole (fun t => t.classData cls.toNat) s

/-- READ ZONE (R175). -/
def execReadZone (zone : Byte) (s : State) : Out := readWhole (fun t => t.zoneData zone.toNat) s

/-- READ SEGMENT (R175). -/
def execReadSegment (segment : Byte) (s : State) : Out := readWhole (fun t => t.segmentData segment.toNat) s

/-- READ PROFILE (R41). -/
def execReadProfile (profile : Byte) (s : State) : Out := readWhole (fun t => t.profileData profile.toNat) s

/-- READ EXCEPTIONS (R41). -/
def execReadExceptions (s : State) : Out := readWhole State.exceptionData s

/-- READ CHANNELS (R109). -/
def execReadChannels (s : State) : Out := readWhole State.channelData s

/-- READ CANDIDATES (R99). -/
def execReadCandidates (s : State) : Out := readWhole State.candidateData s

end Sys2Proof.Machine
end

