-- ==== Sys2Proof/Machine/RegisterCommands.lean ====
section
/-! DEFINITION. The luminaire register's commands (chapter 01): ENROL, AMEND, RETIRE, and the class, zone and segment
tables. Each effect examines its conditions in the order its rule gives; the first that holds is the result. -/

namespace Sys2Proof.Machine

/-- The slot named is FREE (R1). -/
def State.isFree (s : State) (i : Nat) : Bool := (s.record? i).isNone

/-- The first `n` neighbour places (R18). -/
def placesGiven (n : Nat) (places : List Half) : List Nat := (places.take n).map (·.toNat)

/-- A neighbour count or a place among those given is out of range (R18). -/
def placesOutOfRange (n : Nat) (places : List Half) : Bool :=
  decide (Config.neighbourLimit < n) || (placesGiven n places).any fun i => decide (Config.slotCount ≤ i)

/-- A list of neighbours for record `i` names a FREE slot, the record itself, or an index twice (R18, R20). -/
def State.neighboursInvalid (s : State) (i : Nat) (l : List Nat) : Bool :=
  l.any (fun n => s.isFree n || n == i) || !decide l.Nodup

/-- The record in a slot already has 6 neighbours (R18, R20). -/
def State.neighbourFull (s : State) (n : Nat) : Bool :=
  match s.record? n with
  | some r => decide (Config.neighbourLimit ≤ r.neighbours.length)
  | none => false

/-- The record in a slot is under test (R20). -/
def State.underTest (s : State) (n : Nat) : Bool :=
  match s.record? n with
  | some r => r.state.inTest
  | none => false

/-- The class is defined (R4). -/
def State.classDefined (s : State) (c : Nat) : Bool := (s.classAt c).figures.isSome

/-! ### ENROL (R18, R19) -/

/-- The record an ENROL creates (R2, R19). -/
def State.newRecord (s : State) (segment address zone cls : Nat) (neighbours : List Nat) : Record :=
  { segment := segment
    address := address
    zone := zone
    cls := cls
    neighbours := neighbours
    state := .ready
    enrolMinute := s.now
    lastFunction := none
    lastDuration := none
    hold := none
    requested := none
    shortInterval := false
    noAnswer := 0
    retirePending := false
    lastOutcome := none }

/-- The effects of an ENROL that passes its conditions (R19). -/
def State.enrolRecord (s : State) (i : Nat) (r : Record) : State :=
  (((((s.setRecord i r).linkAll i r.neighbours).joinZone r.zone r.state).joinClass r.cls).addLocation
    r.segment r.address i)

/-- ENROL (R18). -/
def enrolEffect (slot : Half) (segment address zone cls count : Byte) (places : List Half) (s : State) :
    State × Result :=
  let i := slot.toNat
  let g := segment.toNat
  let l := placesGiven count.toNat places
  if Config.slotCount ≤ i ∨ Config.segmentCount ≤ g ∨ Config.classCount ≤ cls.toNat
      ∨ placesOutOfRange count.toNat places = true then (s, .outOfRange)
  else if s.isFree i = false then (s, .slotInUse)
  else if s.classDefined cls.toNat = false then (s, .classUndefined)
  else if (s.zoneAt zone.toNat).isDefined = false then (s, .zoneUndefined)
  else if (s.locate g address.toNat).isSome then (s, .addressTaken)
  else if s.neighboursInvalid i l then (s, .neighbourInvalid)
  else if l.any s.neighbourFull then (s, .neighbourFull)
  else if s.clock.isSet = false then (s, .clockUnset)
  else (s.enrolRecord i (s.newRecord g address.toNat zone.toNat cls.toNat l), .done)

def execEnrol (slot : Half) (segment address zone cls count : Byte) (places : List Half) (s : State) : Out :=
  carryOut (.enrol slot segment address zone cls count places)
    (enrolEffect slot segment address zone cls count places) s

/-! ### AMEND (R20 to R23) -/

/-- What an AMEND changes: for each selected value that differs from the record's present one, the new value (R20). -/
structure Changes where
  location : Option (Nat × Nat)
  zone : Option Nat
  cls : Option Nat
  neighbours : Option (List Nat)
  deriving DecidableEq, Repr

/-- The two lists hold the same set of indices (R20). -/
def sameSet (a b : List Nat) : Bool := a.all (fun n => b.contains n) && b.all (fun n => a.contains n)

/-- A selected value is a change when it differs from the present one. -/
def changeTo {α : Type} [DecidableEq α] (selected : Bool) (present given : α) : Option α :=
  if selected = true ∧ given ≠ present then some given else none

/-- The indices of `new` that are not in `old`, in order. -/
def added (old new : List Nat) : List Nat := new.filter fun n => !old.contains n

/-- A change of LOCATION (R21): the lookup entry moves, the record takes the pair. -/
def State.amendLocation (s : State) (i : Nat) (r : Record) : Option (Nat × Nat) → State
  | some (g, a) =>
    ((s.setRecord i { r with segment := g, address := a }).removeLocation r.segment r.address).addLocation g a i
  | none => s

/-- A change of CLASS (R21). -/
def State.amendClass (s : State) (i : Nat) (r : Record) : Option Nat → State
  | some c => ((s.setRecord i { r with cls := c }).leaveClass r.cls).joinClass c
  | none => s

/-- A change of ZONE (R22). -/
def State.amendZone (s : State) (i : Nat) (r : Record) : Option Nat → State
  | some z => ((s.setRecord i { r with zone := z }).leaveZone r.zone r.state).joinZone z r.state
  | none => s

/-- A change of NEIGHBOURS (R23). -/
def State.amendNeighbours (s : State) (i : Nat) (r : Record) : Option (List Nat) → State
  | some l =>
    ((s.setRecord i { r with neighbours := l }).unlinkAll i (added l r.neighbours)).linkAll i (added r.neighbours l)
  | none => s

/-- The record of slot `i` as it stands, `r` where the slot is FREE. -/
def State.current (s : State) (i : Nat) (r : Record) : Record := (s.record? i).getD r

/-- Every change of an AMEND, in one event (R21 to R23). -/
def State.applyChanges (s : State) (i : Nat) (r : Record) (ch : Changes) : State :=
  let s1 := s.amendLocation i r ch.location
  let s2 := s1.amendClass i (s1.current i r) ch.cls
  let s3 := s2.amendZone i (s2.current i r) ch.zone
  s3.amendNeighbours i (s3.current i r) ch.neighbours

/-- AMEND (R20). -/
def amendEffect (slot : Half) (selection segment address zone cls count : Byte) (places : List Half) (s : State) :
    State × Result :=
  let i := slot.toNat
  let selLocation := selection.getLsbD 0
  let selZone := selection.getLsbD 1
  let selClass := selection.getLsbD 2
  let selNeighbours := selection.getLsbD 3
  let l := placesGiven count.toNat places
  if Config.slotCount ≤ i ∨ (selLocation = true ∧ Config.segmentCount ≤ segment.toNat)
      ∨ (selClass = true ∧ Config.classCount ≤ cls.toNat)
      ∨ (selNeighbours = true ∧ placesOutOfRange count.toNat places = true) then (s, .outOfRange)
  else
    match s.record? i with
    | none => (s, .notEnrolled)
    | some r =>
      let ch : Changes :=
        { location := changeTo selLocation (r.segment, r.address) (segment.toNat, address.toNat)
          zone := changeTo selZone r.zone zone.toNat
          cls := changeTo selClass r.cls cls.toNat
          neighbours := if selNeighbours && !sameSet l r.neighbours then some l else none }
      if r.retirePending then (s, .wrongState)
      else if r.state.inTest = true ∧ (ch.location.isSome = true ∨ ch.cls.isSome = true) then (s, .inTest)
      else if ch.cls.isSome = true ∧ s.classDefined cls.toNat = false then (s, .classUndefined)
      else if ch.zone.isSome = true ∧ (s.zoneAt zone.toNat).isDefined = false then (s, .zoneUndefined)
      else if ch.location.isSome = true ∧ (s.locate segment.toNat address.toNat).isSome = true then (s, .addressTaken)
      else if selNeighbours = true ∧ s.neighboursInvalid i l = true then (s, .neighbourInvalid)
      else if ch.neighbours.isSome = true ∧ (added r.neighbours l).any s.neighbourFull = true then (s, .neighbourFull)
      else if ch.neighbours.isSome = true ∧ r.state.inTest = true ∧ (added r.neighbours l).any s.underTest = true then
        (s, .neighbourBusy)
      else if ch.location.isNone && ch.zone.isNone && ch.cls.isNone && ch.neighbours.isNone then (s, .noEffect)
      else (s.applyChanges i r ch, .done)

def execAmend (slot : Half) (selection segment address zone cls count : Byte) (places : List Half) (s : State) : Out :=
  carryOut (.amend slot selection segment address zone cls count places)
    (amendEffect slot selection segment address zone cls count places) s

/-! ### RETIRE (R25) -/

/-- RETIRE. -/
def retireEffect (slot : Half) (s : State) : State × Result :=
  let i := slot.toNat
  if Config.slotCount ≤ i then (s, .outOfRange)
  else
    match s.record? i with
    | none => (s, .notEnrolled)
    | some r =>
      if r.retirePending then (s, .noEffect)
      else if r.state.inTest then (s.setRecord i { r with retirePending := true }, .deferred)
      else (s.freeRecord i r, .done)

def execRetire (slot : Half) (s : State) : Out := carryOut (.retire slot) (retireEffect slot) s

/-! ### The class table (R5, R6) -/

/-- The nine figures as carried. -/
def carriedFigures (fl rd fi di : Half) (ew gr rf : Byte) (rmin rmax : Half) : Figures :=
  { functionLength := fl.toNat
    ratedDuration := rd.toNat
    functionInterval := fi.toNat
    durationInterval := di.toNat
    earlyWindow := ew.toNat
    grace := gr.toNat
    rechargeFactor := rf.toNat
    rechargeMin := rmin.toNat
    rechargeMax := rmax.toNat }

/-- Each figure clamped to its range (R4, R5). -/
def Figures.clamped (f : Figures) : Figures :=
  { functionLength := clampTo 10 600 f.functionLength
    ratedDuration := clampTo 30 240 f.ratedDuration
    functionInterval := clampTo 1 92 f.functionInterval
    durationInterval := clampTo 30 730 f.durationInterval
    earlyWindow := clampTo 0 30 f.earlyWindow
    grace := clampTo 0 60 f.grace
    rechargeFactor := clampTo 16 255 f.rechargeFactor
    rechargeMin := clampTo 0 1440 f.rechargeMin
    rechargeMax := clampTo 60 4320 f.rechargeMax }

/-- The recharge minimum lowered to the maximum where it exceeds it (R5). -/
def Figures.ordered (f : Figures) : Figures := { f with rechargeMin := min f.rechargeMin f.rechargeMax }

/-- WRITE CLASS (R5): DONE_CLAMPED where a figure was clamped or the minimum lowered. -/
def writeClassEffect (cls : Byte) (f : Figures) (s : State) : State × Result :=
  if Config.classCount ≤ cls.toNat then (s, .outOfRange)
  else
    (s.setClass cls.toNat { s.classAt cls.toNat with figures := some f.clamped.ordered },
      doneOr (decide (f.clamped.ordered ≠ f)))

def execWriteClass (cls : Byte) (fl rd fi di : Half) (ew gr rf : Byte) (rmin rmax : Half) (s : State) : Out :=
  carryOut (.writeClass cls fl rd fi di ew gr rf rmin rmax)
    (writeClassEffect cls (carriedFigures fl rd fi di ew gr rf rmin rmax)) s

/-- CLEAR CLASS (R6). -/
def clearClassEffect (cls : Byte) (s : State) : State × Result :=
  if Config.classCount ≤ cls.toNat then (s, .outOfRange)
  else if s.classDefined cls.toNat = false then (s, .noEffect)
  else if 0 < (s.classAt cls.toNat).users then (s, .inUse)
  else (s.setClass cls.toNat { s.classAt cls.toNat with figures := none }, .done)

def execClearClass (cls : Byte) (s : State) : Out := carryOut (.clearClass cls) (clearClassEffect cls) s

/-! ### The zone table (R10 to R12) -/

/-- WRITE ZONE (R10). A zone index is one byte, so none is above 255. -/
def writeZoneEffect (zone profile percent : Byte) (s : State) : State × Result :=
  if Config.profileCount ≤ profile.toNat then (s, .outOfRange)
  else
    (s.setZone zone.toNat
        { s.zoneAt zone.toNat with
          isDefined := true
          profile := profile.toNat
          percent := clampTo 1 100 percent.toNat },
      doneOr (clamps 1 100 percent.toNat))

def execWriteZone (zone profile percent : Byte) (s : State) : Out :=
  carryOut (.writeZone zone profile percent) (writeZoneEffect zone profile percent) s

/-- SET ZONE HOLD (R11). -/
def setZoneHoldEffect (zone flag : Byte) (s : State) : State × Result :=
  if (s.zoneAt zone.toNat).isDefined = false then (s, .zoneUndefined)
  else if (s.zoneAt zone.toNat).held = flagOf flag then (s, .noEffect)
  else (s.setZone zone.toNat { s.zoneAt zone.toNat with held := flagOf flag }, .done)

def execSetZoneHold (zone flag : Byte) (s : State) : Out :=
  carryOut (.setZoneHold zone flag) (setZoneHoldEffect zone flag) s

/-- CLEAR ZONE (R12): profile, percent and held take the undefined values of R8. -/
def clearZoneEffect (zone : Byte) (s : State) : State × Result :=
  if (s.zoneAt zone.toNat).isDefined = false then (s, .noEffect)
  else if 0 < (s.zoneAt zone.toNat).population then (s, .inUse)
  else
    (s.setZone zone.toNat
      { s.zoneAt zone.toNat with isDefined := false, profile := 0, percent := 100, held := false }, .done)

def execClearZone (zone : Byte) (s : State) : Out := carryOut (.clearZone zone) (clearZoneEffect zone) s

/-! ### The segment table (R14) -/

/-- WRITE SEGMENT (R14). -/
def writeSegmentEffect (segment enabled cap : Byte) (s : State) : State × Result :=
  if Config.segmentCount ≤ segment.toNat then (s, .outOfRange)
  else
    (s.setSegment segment.toNat
        { s.segmentAt segment.toNat with enabled := flagOf enabled, cap := clampTo 1 8 cap.toNat },
      doneOr (clamps 1 8 cap.toNat))

def execWriteSegment (segment enabled cap : Byte) (s : State) : Out :=
  carryOut (.writeSegment segment enabled cap) (writeSegmentEffect segment enabled cap) s

end Sys2Proof.Machine
end

