-- ==== Sys2Proof/Machine/Dispatch.lean ====
section
/-! DEFINITION. One arm per command: the effect of a command on everything but the queue of waiting commands. -/

namespace Sys2Proof.Machine

def exec (i : Instr) (s : State) : Host.Outcome State Fault Refusal :=
  match i with
  | .enrol slot segment address zone cls count places => Sys2Proof.Machine.execEnrol slot segment address zone cls count places s
  | .amend slot selection segment address zone cls count places => Sys2Proof.Machine.execAmend slot selection segment address zone cls count places s
  | .retire slot => Sys2Proof.Machine.execRetire slot s
  | .writeClass cls functionLength ratedDuration functionInterval durationInterval earlyWindow grace rechargeFactor rechargeMin rechargeMax => Sys2Proof.Machine.execWriteClass cls functionLength ratedDuration functionInterval durationInterval earlyWindow grace rechargeFactor rechargeMin rechargeMax s
  | .clearClass cls => Sys2Proof.Machine.execClearClass cls s
  | .writeZone zone profile percent => Sys2Proof.Machine.execWriteZone zone profile percent s
  | .setZoneHold zone flag => Sys2Proof.Machine.execSetZoneHold zone flag s
  | .clearZone zone => Sys2Proof.Machine.execClearZone zone s
  | .writeSegment segment enabled cap => Sys2Proof.Machine.execWriteSegment segment enabled cap s
  | .requestTest slot kind => Sys2Proof.Machine.execRequestTest slot kind s
  | .cancelRequest slot => Sys2Proof.Machine.execCancelRequest slot s
  | .acceptRepair slot => Sys2Proof.Machine.execAcceptRepair slot s
  | .revive slot => Sys2Proof.Machine.execRevive slot s
  | .abortTest slot => Sys2Proof.Machine.execAbortTest slot s
  | .setClock minute => Sys2Proof.Machine.execSetClock minute s
  | .trimClock amount => Sys2Proof.Machine.execTrimClock amount s
  | .writeProfile profile slots => Sys2Proof.Machine.execWriteProfile profile slots s
  | .addException start stop scope index effect => Sys2Proof.Machine.execAddException start stop scope index effect s
  | .dropException start stop scope index effect => Sys2Proof.Machine.execDropException start stop scope index effect s
  | .setSweep mode scope zone => Sys2Proof.Machine.execSetSweep mode scope zone s
  | .startSweep => Sys2Proof.Machine.execStartSweep s
  | .setTiming seconds => Sys2Proof.Machine.execSetTiming seconds s
  | .configureLink sense threshold loopback => Sys2Proof.Machine.execConfigureLink sense threshold loopback s
  | .haltSegments segments => Sys2Proof.Machine.execHaltSegments segments s
  | .start => Sys2Proof.Machine.execStart s
  | .suspend flag minute => Sys2Proof.Machine.execSuspend flag minute s
  | .resume => Sys2Proof.Machine.execResume s
  | .halt => Sys2Proof.Machine.execHalt s
  | .setTurnaround bytes => Sys2Proof.Machine.execSetTurnaround bytes s
  | .setAttentionLevels levels => Sys2Proof.Machine.execSetAttentionLevels levels s
  | .resetPart => Sys2Proof.Machine.execResetPart s
  | .partReset => Sys2Proof.Machine.execPartReset s
  | .accept bytes ending => Sys2Proof.Machine.execAccept bytes ending s
  | .readStatus => Sys2Proof.Machine.execReadStatus s
  | .statusRepetition => Sys2Proof.Machine.execStatusRepetition s
  | .readAttention => Sys2Proof.Machine.execReadAttention s
  | .readClock => Sys2Proof.Machine.execReadClock s
  | .readRecord start => Sys2Proof.Machine.execReadRecord start s
  | .walkZone zone start => Sys2Proof.Machine.execWalkZone zone start s
  | .walkState code start => Sys2Proof.Machine.execWalkState code start s
  | .walkNextImage => Sys2Proof.Machine.execWalkNextImage s
  | .walkEnd => Sys2Proof.Machine.execWalkEnd s
  | .findAddress segment address => Sys2Proof.Machine.execFindAddress segment address s
  | .readClass cls => Sys2Proof.Machine.execReadClass cls s
  | .readZone zone => Sys2Proof.Machine.execReadZone zone s
  | .readSegment segment => Sys2Proof.Machine.execReadSegment segment s
  | .readProfile profile => Sys2Proof.Machine.execReadProfile profile s
  | .readExceptions => Sys2Proof.Machine.execReadExceptions s
  | .readChannels => Sys2Proof.Machine.execReadChannels s
  | .readCandidates => Sys2Proof.Machine.execReadCandidates s
  | .secondTick => Sys2Proof.Machine.execSecondTick s
  | .runExpiry channel => Sys2Proof.Machine.execRunExpiry channel s
  | .answerExpiry channel => Sys2Proof.Machine.execAnswerExpiry channel s
  | .stall => Sys2Proof.Machine.execStall s
  | .visit => Sys2Proof.Machine.execVisit s
  | .passCompletion => Sys2Proof.Machine.execPassCompletion s
  | .trial => Sys2Proof.Machine.execTrial s
  | .orderTake => Sys2Proof.Machine.execOrderTake s
  | .loopbackTake => Sys2Proof.Machine.execLoopbackTake s
  | .reportWrite word => Sys2Proof.Machine.execReportWrite word s
  | .reportTake => Sys2Proof.Machine.execReportTake s
  | .mainsWordWrite word => Sys2Proof.Machine.execMainsWordWrite word s
  | .mainsWordTake => Sys2Proof.Machine.execMainsWordTake s
  | .haltTake => Sys2Proof.Machine.execHaltTake s

end Sys2Proof.Machine
end

