-- ==== Sys2Proof/Safety.lean ====
section
/-! DEFINITION. The laws that the spec states of the whole part, in the terms claims use, and the words in which claims
about one command are stated. -/

namespace Sys2Proof.Machine

/-! ### Words for claims about one command -/

/-- The action may be executed now: no expiry of the last second tick is outstanding, and no other action is in hand. -/
def Ready (c : Instr) (s : State) : Prop := s.calm = true ∧ s.admits c = true

/-- Conditions examined in order (00_scope.md, "Refusal and clamping"; R101): the first that holds gives its answer,
`final` where none does. -/
def Examined {ρ : Type} : List (Prop × ρ) → (ρ → Prop) → Prop → Prop
  | [], _, final => final
  | (p, r) :: l, answer, final => (p → answer r) ∧ (¬p → Examined l answer final)

/-- The command has no effect. -/
def Idles (c : Instr) (s : State) : Prop := exec c s = .next s

/-- The read samples these bytes and has no other effect; it is no READ STATUS. -/
def Returns (c : Instr) (s : State) (bytes : List Byte) : Prop :=
  exec c s = .next { s with port := { s.port with output := bytes, statusRead := false } }

/-- The command ends with a result and no other effect. -/
def EndsWith (c : Instr) (s : State) (r : Result) : Prop := exec c s = .next (s.finish r)

/-- The command completes in a state of which `post` holds. -/
def Completes (c : Instr) (s : State) (post : State → Prop) : Prop := ∃ t, exec c s = .next t ∧ post t

/-- The enrolled records among those a list names: what is left of a neighbour list when records are freed (R24). -/
def State.enrolledAmong (s : State) (l : List Nat) : List Nat := l.filter fun n => (s.record? n).isSome

/-- The record of a channel after its VOID close (R70, R77, R78, R125). -/
def State.voided (s : State) (c : Channel) (r : Record) : Record :=
  let d : Detail := if c.started = true then .afterStart else .beforeStart
  { s.judged r { kind := c.kind, verdict := .void, detail := some d, elapsed := c.elapsed, run := c.runSeconds } with
    lastOutcome :=
      some
        { kind := c.kind, verdict := .void, detail := some d, closeMinute := s.now, measured := c.elapsed
          permille := capacityPermille .void c.elapsed c.runSeconds, rehearsal := s.link.loopback } }

/-! ### The laws of the tables -/

/-- Every table has its canonical form: strictly rising keys, no entry at its part reset value. -/
def State.Canonical (s : State) : Prop :=
  Table.Rising s.luminaires ∧ Table.Rising s.lookup ∧ Table.Canonical ClassEntry.reset s.classes
    ∧ Table.Canonical Zone.reset s.zones ∧ Table.Canonical Segment.reset s.segments
    ∧ Table.Canonical Channel.reset s.channels ∧ Table.Canonical (0 : Slots) s.profiles
    ∧ Table.Canonical CauseState.reset s.attention.causes

/-- How many enrolled records satisfy a test. -/
def State.countRecords (s : State) (p : Record → Bool) : Nat := s.luminaires.countP fun e => p e.2

/-- R9: a zone's population and uncovered count are those of its records. -/
def State.ZoneCounts (s : State) : Prop :=
  ∀ z, (s.zoneAt z).population = s.countRecords (fun r => r.zone == z)
    ∧ (s.zoneAt z).uncovered = s.countRecords fun r => r.zone == z && r.state.uncovered

/-- R1, R2, R45: every record has an index, a segment, an address, a zone and a class in their ranges, its class is
defined and its zone is defined. -/
def State.NamesLaw (s : State) : Prop :=
  ∀ i r, s.record? i = some r →
    i < 4096 ∧ r.segment < 16 ∧ r.address < 256 ∧ r.zone < 256 ∧ r.cls < 16
      ∧ (s.classAt r.cls).figures.isSome = true ∧ (s.zoneAt r.zone).isDefined = true

/-- R4: a class's users count is the number of records naming it. -/
def State.ClassUsers (s : State) : Prop := ∀ c, (s.classAt c).users = s.countRecords fun r => r.cls == c

/-- R15: the lookup maps a location to an index exactly where the record of that index is there. -/
def State.LookupLaw (s : State) : Prop :=
  ∀ g a i, a < 256 → (s.locate g a = some i ↔ ∃ r, s.record? i = some r ∧ r.segment = g ∧ r.address = a)

/-- R17: the neighbour relation is symmetric and irreflexive, holds no duplicates, joins only enrolled records, and no
record has more than 6 neighbours. -/
def State.NeighbourLaw (s : State) : Prop :=
  ∀ i r, s.record? i = some r →
    r.neighbours.Nodup ∧ r.neighbours.length ≤ 6 ∧ i ∉ r.neighbours
      ∧ ∀ n ∈ r.neighbours, ∃ q, s.record? n = some q ∧ i ∈ q.neighbours

/-- R23: no two records that are neighbours are both in ORDERED or TESTING. -/
def State.DarknessLaw (s : State) : Prop :=
  ∀ i r n q, s.record? i = some r → s.record? n = some q → n ∈ r.neighbours →
    ¬(r.state.inTest = true ∧ q.state.inTest = true)

/-- R65: in which states a record has a hold. -/
def State.HoldLaw (s : State) : Prop :=
  ∀ i r, s.record? i = some r →
    (r.state = .recharging → r.hold.isSome = true)
      ∧ (r.state = .ordered ∨ r.state = .testing ∨ r.state = .faulty ∨ r.state = .silent → r.hold = none)

/-- R36: the exception list is ordered by start, holds no two identical entries and at most 64, each entry has start
before end, and once the clock is SET every end lies after the clock. -/
def State.ExceptionLaw (s : State) : Prop :=
  s.exceptions.Pairwise (fun a b => a.start ≤ b.start) ∧ s.exceptions.Nodup ∧ s.exceptions.length ≤ 64
    ∧ (∀ e ∈ s.exceptions, e.start < e.stop)
    ∧ (s.clock.isSet = true → ∀ e ∈ s.exceptions, s.clock.value < e.stop)

/-! ### The laws of the channels and the link -/

/-- Only channels 0..31 exist (R107). -/
def State.ChannelsExist (s : State) : Prop := ∀ k, 32 ≤ k → s.channelAt k = Channel.reset

/-- R66 and R13: a bound channel's record is under test, no record has two channels, a record under test has one, and a
segment's active count is the number of bound channels on it. -/
def State.BindingLaw (s : State) : Prop :=
  s.ChannelsExist
    ∧ (∀ k, s.bound k = true → ∃ r, s.record? (s.channelAt k).index = some r ∧ r.state.inTest = true)
    ∧ (∀ k j, s.bound k = true → s.bound j = true → (s.channelAt k).index = (s.channelAt j).index → k = j)
    ∧ (∀ i r, s.record? i = some r → r.state.inTest = true → ∃ k, s.bound k = true ∧ (s.channelAt k).index = i)
    ∧ ∀ g, (s.segmentAt g).active = (allChannels.filter fun k => s.bound k && s.onSegment k g).length

/-- R107, R112: the timer role of each state, and what a channel's counts say of its test: in RUNNING elapsed and timer
target together are the run seconds, in STOPPING elapsed has reached them, in ORDERED the count has not begun. -/
def Channel.Lawful (c : Channel) : Prop :=
  match c.state with
  | .free => c.role = .none
  | .ordered => c.role = .answer ∧ c.started = false ∧ c.elapsed = 0
  | .running => c.role = .run ∧ c.started = true ∧ c.elapsed + c.target = c.runSeconds
  | .stopping => c.role = .answer ∧ c.started = true ∧ c.runSeconds ≤ c.elapsed
  | .aborting => c.role = .answer

/-- Every channel is lawful, and its run seconds and the lengths its class could give it lie in their ranges (R4,
R107). -/
def State.TimerLaw (s : State) : Prop :=
  s.ChannelsExist ∧ (∀ k, (s.channelAt k).Lawful ∧ (s.channelAt k).runSeconds ≤ 14400)
    ∧ ∀ c, (s.figures c).ratedDuration ≤ 240 ∧ (s.figures c).functionLength ≤ 600

/-- How many orders of a binding a channel in a state may have queued (R111). -/
def ChannelState.orderRoom : ChannelState → Nat
  | .free => 0
  | .ordered => 1
  | .running => 1
  | .stopping => 2
  | .aborting => 2

/-- R111: every queued order belongs to the present binding of a channel, and no channel has more orders queued than its
state allows. -/
def State.QueueLaw (s : State) : Prop :=
  s.ChannelsExist
    ∧ (∀ o ∈ s.link.dispatch, s.bound o.channel = true ∧ o.generation = (s.channelAt o.channel).generation)
    ∧ ∀ k, (s.link.dispatch.countP fun o => o.channel == k) ≤ (s.channelAt k).state.orderRoom

/-! ### The laws of the planner, programme control, mains and attention -/

/-- A candidate list (R98): at most 16 entries, no index twice, ordered by requested mark, deadline, index. -/
def CandidateOrder (l : List Candidate) : Prop :=
  l.length ≤ 16 ∧ (l.map (·.index)).Nodup ∧ l.Pairwise fun a b => a.before b = true

/-- R98 for both lists; every entry of the working list has been passed by the cursor (R90), and the tally counts
visited records (R93); the trial position is the number of published entries tried, the others being NOT_TRIED (R85,
R99). -/
def State.CandidateLaw (s : State) : Prop :=
  CandidateOrder s.planner.working ∧ CandidateOrder (s.planner.published.map (·.entry))
    ∧ (∀ c ∈ s.planner.working, c.index < s.planner.cursor) ∧ s.planner.tally ≤ s.planner.cursor
    ∧ s.planner.trialPosition ≤ s.planner.published.length
    ∧ ∀ n e, s.planner.published[n]? = some e → (e.outcome = .notTried ↔ s.planner.trialPosition ≤ n)

/-- R157, R159, R163, R164: in STOPPED no channel is bound, in HALTING one is, out of STOPPED the clock is SET and the
link CONFIGURED, and a resume minute is present only while SUSPENDED. -/
def State.ProgrammeLaw (s : State) : Prop :=
  (s.programme.state = .stopped → s.boundCount = 0)
    ∧ (s.programme.state = .halting → 0 < s.boundCount)
    ∧ (s.programme.state ≠ .stopped → s.clock.isSet = true ∧ s.link.configured = true)
    ∧ (s.programme.resumeMinute.isSome = true → s.programme.state = .suspended)

/-- R146: an outage start is present exactly while the mains state is ABSENT. -/
def State.MainsLaw (s : State) : Prop :=
  ∀ g, (s.segmentAt g).outageStart.isSome = true ↔ (s.segmentAt g).mains = .absent

/-- R178 to R180: MAINS_CHANGE carries the map and is pending exactly while the map holds a segment, OVERDUE carries the
published overdue count and is pending exactly while it is 1 or more. -/
def State.AttentionLaw (s : State) : Prop :=
  (s.causeAt .mainsChange).carried = s.attention.changeMap.toNat
    ∧ ((s.causeAt .mainsChange).pending = true ↔ s.attention.changeMap ≠ 0)
    ∧ (s.causeAt .overdue).carried = s.planner.publishedOverdue
    ∧ ((s.causeAt .overdue).pending = true ↔ 0 < s.planner.publishedOverdue)

/-- The host port (R167, R168, R173): what is in hand is an action that the accept could have put there; a walk's next
index is an index, or the start index once the walk is exhausted. -/
def State.PortLaw (s : State) : Prop :=
  (∀ a, s.port.inHand = some a → a.isAction = true ∧ a.wellFormed = true ∧ a ≠ .resetPart)
    ∧ ∀ c, s.port.walk = some c →
      c.start ≤ 65535 ∧ (c.next < 4096 ∨ c.next = c.start) ∧ (4096 ≤ c.start → c.next = c.start)

/-! ### The ranges of the manual's quantities -/

/-- An optional minute is absent or a 32-bit minute (R26). -/
abbrev MinuteInRange (m : Option Nat) : Prop := ∀ n ∈ m, n ≤ 4294967295

/-- The ranges of the nine figures (R4); the minimum is at most the maximum (R5). -/
abbrev Figures.InRange (f : Figures) : Prop :=
  (10 ≤ f.functionLength ∧ f.functionLength ≤ 600) ∧ (30 ≤ f.ratedDuration ∧ f.ratedDuration ≤ 240)
    ∧ (1 ≤ f.functionInterval ∧ f.functionInterval ≤ 92) ∧ (30 ≤ f.durationInterval ∧ f.durationInterval ≤ 730)
    ∧ f.earlyWindow ≤ 30 ∧ f.grace ≤ 60 ∧ (16 ≤ f.rechargeFactor ∧ f.rechargeFactor ≤ 255)
    ∧ f.rechargeMin ≤ 1440 ∧ (60 ≤ f.rechargeMax ∧ f.rechargeMax ≤ 4320) ∧ f.rechargeMin ≤ f.rechargeMax

/-- The ranges of an entry of the class table (R4). -/
abbrev ClassEntry.InRange (e : ClassEntry) : Prop := e.users ≤ 4096 ∧ ∀ f ∈ e.figures, f.InRange

/-- The ranges of an entry of the zone table (R8); the uncovered records are among the population (R9). -/
abbrev Zone.InRange (z : Zone) : Prop :=
  z.profile ≤ 31 ∧ 1 ≤ z.percent ∧ z.percent ≤ 100 ∧ z.population ≤ 4096 ∧ z.uncovered ≤ z.population

/-- The ranges of an entry of the segment table (R13, R146). -/
abbrev Segment.InRange (g : Segment) : Prop :=
  1 ≤ g.cap ∧ g.cap ≤ 8 ∧ g.active ≤ 8 ∧ MinuteInRange g.outageStart

/-- The ranges of a last outcome (R3). -/
abbrev LastOutcome.InRange (o : LastOutcome) : Prop :=
  o.closeMinute ≤ 4294967295 ∧ o.measured ≤ 65535 ∧ o.permille ≤ 1000

/-- The ranges of a record's counts and minutes (R2, R3); its names are in `State.NamesLaw`. -/
abbrev Record.InRange (r : Record) : Prop :=
  r.noAnswer ≤ 3 ∧ r.enrolMinute ≤ 4294967295 ∧ MinuteInRange r.lastFunction ∧ MinuteInRange r.lastDuration
    ∧ MinuteInRange r.hold ∧ ∀ o ∈ r.lastOutcome, o.InRange

/-- The ranges of a channel context (R107). -/
abbrev Channel.InRange (c : Channel) : Prop :=
  c.index ≤ 4095 ∧ c.generation ≤ 15 ∧ c.runSeconds ≤ 14400 ∧ c.elapsed ≤ 65535 ∧ c.target ≤ 14400

/-- The ranges of a candidate entry (R97). -/
abbrev Candidate.InRange (c : Candidate) : Prop := c.index ≤ 4095 ∧ c.deadline ≤ 4294967295

/-- The zone of a ZONE sweep scope is 0..255 (R85). -/
def SweepScope.inRange : SweepScope → Bool
  | .all => true
  | .zone z => decide (z ≤ 255)

/-- A profile is 0..31 and a zone 0..255 (R36). -/
def ExceptionScope.inRange : ExceptionScope → Bool
  | .campus => true
  | .profile p => decide (p ≤ 31)
  | .zone z => decide (z ≤ 255)

/-- The ranges of an exception (R36). -/
abbrev CalendarException.InRange (e : CalendarException) : Prop :=
  e.start ≤ 4294967295 ∧ e.stop ≤ 4294967295 ∧ e.scope.inRange = true

/-- The fields of an order fit its word (R131). -/
abbrev Order.InRange (o : Order) : Prop := o.channel ≤ 31 ∧ o.generation ≤ 15 ∧ o.segment ≤ 15 ∧ o.address ≤ 255

/-- Every quantity lies in the range the manual gives it. -/
structure State.RangeLaw (s : State) : Prop where
  clock : s.clock.value ≤ 4294967295 ∧ s.clock.seconds ≤ 59
  timing : 10 ≤ s.answerTime ∧ s.answerTime ≤ 600
  threshold : s.link.threshold = 8 ∨ s.link.threshold = 16 ∨ s.link.threshold = 24 ∨ s.link.threshold = 32
  turnaround : s.port.turnaround = 1 ∨ s.port.turnaround = 2 ∨ s.port.turnaround = 4
  queues : s.link.stallCount ≤ 600 ∧ s.link.reports.length ≤ 64
  orders : ∀ o ∈ s.link.dispatch, o.InRange
  causes : ∀ c, (s.causeAt c).level ≤ 7 ∧ (s.causeAt c).carried ≤ 65535
  classes : ∀ c, (s.classAt c).InRange
  zones : ∀ z, (s.zoneAt z).InRange
  segments : ∀ g, (s.segmentAt g).InRange
  channels : ∀ k, (s.channelAt k).InRange
  records : ∀ i r, s.record? i = some r → r.InRange
  exceptions : ∀ e ∈ s.exceptions, e.InRange
  planner :
    s.planner.cursor ≤ 4096 ∧ s.planner.publishedOverdue ≤ 4096 ∧ (∀ c ∈ s.planner.working, c.InRange)
      ∧ (∀ e ∈ s.planner.published, e.entry.InRange) ∧ s.planner.scope.inRange = true
      ∧ s.planner.passScope.inRange = true
  resumeMinute : MinuteInRange s.programme.resumeMinute

/-- The laws of the register: its records, counts, lookup, links, holds and exceptions. -/
structure State.RegisterLaws (s : State) : Prop where
  names : s.NamesLaw
  zoneCounts : s.ZoneCounts
  classUsers : s.ClassUsers
  lookup : s.LookupLaw
  neighbours : s.NeighbourLaw
  darkness : s.DarknessLaw
  holds : s.HoldLaw

/-- Every law together. -/
structure State.Lawful (s : State) : Prop where
  canonical : s.Canonical
  register : s.RegisterLaws
  exceptions : s.ExceptionLaw
  binding : s.BindingLaw
  timers : s.TimerLaw
  queue : s.QueueLaw
  candidates : s.CandidateLaw
  programme : s.ProgrammeLaw
  mains : s.MainsLaw
  attention : s.AttentionLaw
  port : s.PortLaw
  ranges : s.RangeLaw

end Sys2Proof.Machine
end

