-- ==== Sys2Proof/Certificates/Slice0/Obligations.lean ====
section
/-! DEFINITION. The statements for the provers, from the numbered rules of spec/. Where a clause is the model's choice,
the docstring says so and names the log entry. -/

open Sys2Proof Sys2Proof.Machine

/-! ### The machine -/

/-- A step executes the command at the front of the queue with the queue's rest; on an empty queue the part idles (the
model's choice, notes/assumptions/1.md). -/
def Obligations.StepRunsFrontCommand : Prop :=
  (∀ (c : Instr) (rest : List Instr) (s : State),
      step { s with pending := c :: rest } = exec c { s with pending := rest })
    ∧ ∀ s : State, s.pending = [] → step s = .next s

/-- Every command completes in a next state and leaves the queue of waiting commands as it stands. That none stops the
part is the model's reading (notes/assumptions/17.md: the spec names no condition that stops it); the queue, and that a
part reset leaves it, are the model's choice (notes/assumptions/1.md and 18.md). -/
def Obligations.EveryCommandCompletes : Prop :=
  ∀ (c : Instr) (s : State), ∃ t, exec c s = .next t ∧ t.pending = s.pending

/-- What the last second tick left to handle is handled before any other command's own effect (the model's choice of how
R112 to R114 and R138 meet a sender that orders the expiries as steps of their own, notes/assumptions/4.md). -/
def Obligations.ExpiriesComeFirst : Prop :=
  ∀ s : State, 0 < s.answerTime →
    s.settle.calm = true
      ∧ (s.calm = true → s.settle = s)
      ∧ ∀ c : Instr, (∀ k, c ≠ .runExpiry k) → (∀ k, c ≠ .answerExpiry k) → c ≠ .stall →
        exec c s = exec c s.settle

/-- R168: the execution of an action ends with its result in the last result, nothing in hand and BUSY clear; of the
port's other state it changes at most the turnaround, and that only under SET TURNAROUND. An action that is executed
while another one is in hand is dropped: DROPPED is set and nothing else changes (the model's choice for such a command,
notes/assumptions/3.md; R167 and R169 say it of the accept). -/
def Obligations.Actions : Prop :=
  (∀ (c : Instr) (s : State), c.isAction = true → c ≠ .resetPart → Ready c s →
     ∃ t, exec c s = .next t ∧ t.busy = false
       ∧ ((∀ n, c ≠ .setTurnaround n) → t.port = { s.port with lastResult := t.port.lastResult, inHand := none })
       ∧ ((∃ n, c = .setTurnaround n) →
           t.port = { s.port with lastResult := t.port.lastResult, inHand := none, turnaround := t.port.turnaround }))
    ∧ (∀ (c a : Instr) (s : State), c.isAction = true → c ≠ .resetPart → s.calm = true → s.port.inHand = some a → a ≠ c →
         exec c s = .next { s with port := { s.port with dropped := true } })

/-! ### Part reset -/

/-- What State.reset holds, field by field, as the chapters give it. `stallDue`, the port's `statusRead` and `output`,
the `line` and the empty queue of waiting commands are the model's own fields and their values its choice
(notes/assumptions/6.md, 14.md, 7.md, 8.md and 1.md). -/
def Obligations.ResetValues : Prop :=
  (∀ i, State.reset.record? i = none)
    ∧ (∀ c, State.reset.classAt c = { figures := none, users := 0 })
    ∧ (∀ z, State.reset.zoneAt z
        = { isDefined := false, profile := 0, percent := 100, held := false, population := 0, uncovered := 0 })
    ∧ (∀ g, State.reset.segmentAt g
        = { enabled := false, cap := 1, active := 0, mains := .unknown, outageStart := none })
    ∧ (∀ g a, State.reset.locate g a = none)
    ∧ State.reset.clock = { value := 0, isSet := false, seconds := 0 }
    ∧ (∀ p slot, slotOpen (State.reset.profileAt p) slot = false) ∧ State.reset.exceptions = []
    ∧ State.reset.planner
        = { mode := .off, scope := .all, phase := .idle, passScope := .all, cursor := 0, working := [], tally := 0
            trialPosition := 0, published := [], publishedOverdue := 0 }
    ∧ (∀ k, State.reset.channelAt k
        = { state := .free, index := 0, kind := .function, generation := 0, started := false, runSeconds := 0
            elapsed := 0, role := .none, target := 0, path := .order })
    ∧ State.reset.answerTime = 120
    ∧ State.reset.link
        = { configured := false, sense := .odd, threshold := 16, loopback := false, dispatch := [], reports := []
            haltBox := none, mainsBox := none, stallCount := 0, stallLatch := false, stallDue := false }
    ∧ State.reset.pendingHalt = 0 ∧ State.reset.programme = { state := .stopped, resumeMinute := none }
    ∧ State.reset.busy = false ∧ State.reset.port.inHand = none ∧ State.reset.port.lastResult = .done
    ∧ State.reset.port.dropped = false ∧ State.reset.port.turnaround = 1 ∧ State.reset.port.walk = none
    ∧ State.reset.port.statusRead = false ∧ State.reset.port.output = []
    ∧ State.reset.line = { order := none, halt := none }
    ∧ (∀ c, State.reset.causeAt c = { pending := false, level := 0, carried := 0 })
    ∧ State.reset.attention.changeMap = 0 ∧ State.reset.attentionLine = false ∧ State.reset.pending = []

/-- R177: power-on or the reset pin, the execution of RESET PART, and the accept of a RESET PART of the right length,
BUSY or not, all give every block its reset values and leave nothing in hand; only the commands that wait outside the
part stay (the model's queue, notes/assumptions/18.md). A RESET PART of the wrong length is MALFORMED, or dropped while
BUSY. R166: a part reset abandons the transaction in progress: afterwards the part sends all-ones bytes, a repetition of
status bytes and a walk's next image do not come, and the rise of select accepts nothing (that ACCEPT tells an abandoned
transaction by its ending is the model's, notes/assumptions/25.md). -/
def Obligations.PartReset : Prop :=
  (∀ s : State,
     exec .partReset s = .next { State.reset with pending := s.pending }
       ∧ exec .resetPart s = .next { State.reset with pending := s.pending }
       ∧ (s.calm = true → exec (.accept [0x2F#8] .whole) s = .next { State.reset with pending := s.pending })
       ∧ ∀ (args : List Byte) (e : TransactionEnd), s.calm = true → e ≠ .abandoned → args ≠ [] ∨ e = .midByte →
         exec (.accept (0x2F#8 :: args) e) s
           = .next (if s.busy then { s with port := { s.port with dropped := true, statusRead := false } }
               else { s with port := { s.port with lastResult := .malformed, statusRead := false } }))
    ∧ ∀ s t : State, exec .partReset s = .next t →
      (∀ n, t.dataByte n = 0xFF) ∧ Idles .statusRepetition t ∧ Idles .walkNextImage t
        ∧ ∀ bytes, Idles (.accept bytes .abandoned) t

/-! ### Test arithmetic (chapter 03) and the week slot -/

/-- R33. -/
def Obligations.WeekSlots : Prop :=
  (∀ m day, day = m / 1440 % 7 → weekSlot m = day * 48 + m % 1440 / 30)
    ∧ (∀ m, weekSlot m < 336) ∧ (∀ m, weekSlot (m + 7 * 1440) = weekSlot m) ∧ weekSlot 0 = 0
    ∧ (∀ m, m % 30 ≠ 29 → weekSlot (m + 1) = weekSlot m) ∧ ∀ m, m % 30 = 29 → weekSlot (m + 1) ≠ weekSlot m

/-- R46 to R50: interval, due, eligible-from and deadline of each kind, and what is open and overdue. R50: an overdue
kind is always open. -/
def Obligations.DueMinutes : Prop :=
  (∀ (f : Figures) (r : Record) (k : Kind) (now : Nat),
     intervalDays f r.shortInterval .function = f.functionInterval
       ∧ (r.shortInterval = false → intervalDays f r.shortInterval .duration = f.durationInterval)
       ∧ (r.shortInterval = true → 2 ≤ f.durationInterval →
           intervalDays f r.shortInterval .duration = f.durationInterval / 2)
       ∧ (r.shortInterval = true → f.durationInterval < 2 → intervalDays f r.shortInterval .duration = 1)
       ∧ (∀ p, r.lastPass k = some p →
           (p + intervalDays f r.shortInterval k * 1440 ≤ 4294967295 →
               dueMinute f r k = p + intervalDays f r.shortInterval k * 1440)
             ∧ (4294967295 < p + intervalDays f r.shortInterval k * 1440 → dueMinute f r k = 4294967295))
       ∧ (r.lastPass k = none → dueMinute f r k = r.enrolMinute)
       ∧ (f.earlyWindow * 1440 ≤ dueMinute f r k → eligibleFrom f r k + f.earlyWindow * 1440 = dueMinute f r k)
       ∧ (dueMinute f r k < f.earlyWindow * 1440 → eligibleFrom f r k = 0)
       ∧ (dueMinute f r k + f.grace * 1440 ≤ 4294967295 → deadlineMinute f r k = dueMinute f r k + f.grace * 1440)
       ∧ (4294967295 < dueMinute f r k + f.grace * 1440 → deadlineMinute f r k = 4294967295)
       ∧ (isOpen f r k now = true ↔ eligibleFrom f r k ≤ now)
       ∧ (isOverdue f r k now = true ↔ deadlineMinute f r k ≤ now))
    ∧ (∀ (f : Figures) (r : Record) (k : Kind) (now : Nat), r.enrolMinute ≤ 4294967295 →
         isOverdue f r k now = true → isOpen f r k now = true)

/-- R52, and its place between 1 and the population. R56 and R57: the capacity permille of a closed test. -/
def Obligations.CoverAndCapacity : Prop :=
  ((∀ percent, coverLimit 0 percent = 0)
     ∧ (∀ n percent, 0 < n → n * percent / 100 = 0 → coverLimit n percent = 1)
     ∧ (∀ n percent, 0 < n → n * percent / 100 ≠ 0 → coverLimit n percent = n * percent / 100)
     ∧ ∀ n percent, 0 < n → percent ≤ 100 → 1 ≤ coverLimit n percent ∧ coverLimit n percent ≤ n)
    ∧ (∀ elapsed run : Nat, 0 < run →
         capacityPermille .pass elapsed run = 1000 ∧ capacityPermille .passLow elapsed run = 1000
           ∧ (∀ v, v ≠ .pass → v ≠ .passLow → capacityPermille v elapsed run = min elapsed run * 1000 / run)
           ∧ (∀ v, capacityPermille v elapsed run ≤ 1000)
           ∧ (∀ v, v ≠ .pass → v ≠ .passLow → elapsed < run →
               capacityPermille v elapsed run ≤ (run - 1) * 1000 / run ∧ capacityPermille v elapsed run < 1000)
           ∧ (∀ v, v ≠ .pass → v ≠ .passLow → capacityPermille v 0 run = 0)
           ∧ ∀ v, run ≤ elapsed → capacityPermille v elapsed run = 1000)

/-- R54 and R58 to R62: run seconds, discharged minutes, recharge holds and outage holds. A minute count is a rounding
up when it is the least that covers the seconds. -/
def Obligations.RechargeHolds : Prop :=
  (∀ f, runSecondsOf f .function = f.functionLength ∧ runSecondsOf f .duration = f.ratedDuration * 60)
    ∧ (∀ elapsed run,
        dischargedAtClose elapsed run ≤ dischargedAtClose run run
          ∧ run ≤ dischargedAtClose run run * 60 ∧ dischargedAtClose run run * 60 < run + 60
          ∧ (elapsed ≤ run → elapsed ≤ dischargedAtClose elapsed run * 60
              ∧ dischargedAtClose elapsed run * 60 < elapsed + 60)
          ∧ (run ≤ elapsed → dischargedAtClose elapsed run = dischargedAtClose run run))
    ∧ (∀ start now rated, 0 < rated →
        1 ≤ dischargedAtRestore start now rated ∧ dischargedAtRestore start now rated ≤ rated
          ∧ (now ≤ start → dischargedAtRestore start now rated = 1)
          ∧ (start < now → now - start ≤ rated → dischargedAtRestore start now rated = now - start)
          ∧ (rated ≤ now - start → dischargedAtRestore start now rated = rated))
    ∧ (∀ (f : Figures) (d : Nat), f.rechargeMin ≤ f.rechargeMax →
        f.rechargeMin ≤ rechargeHold f d ∧ rechargeHold f d ≤ f.rechargeMax ∧ rechargeHold f 0 = f.rechargeMin
          ∧ (f.rechargeMin < rechargeHold f d → rechargeHold f d < f.rechargeMax →
              d * f.rechargeFactor ≤ rechargeHold f d * 16 ∧ rechargeHold f d * 16 < d * f.rechargeFactor + 16)
          ∧ (f.rechargeMax * 16 ≤ d * f.rechargeFactor → rechargeHold f d = f.rechargeMax)
          ∧ (d * f.rechargeFactor ≤ f.rechargeMin * 16 → rechargeHold f d = f.rechargeMin))
    ∧ ∀ m n, laterHold none n = n ∧ m ≤ laterHold (some m) n ∧ n ≤ laterHold (some m) n
      ∧ (laterHold (some m) n = m ∨ laterHold (some m) n = n)

/-! ### Calendars (chapter 02) -/

/-- R40 and R42: the effective state of a minute for a zone. R43: window fit, and the span of each kind, the least whole
number of minutes that covers the test. -/
def Obligations.CalendarJudgement : Prop :=
  (∀ (s : State) (z m : Nat),
     let covers (e : CalendarException) : Prop := e ∈ s.exceptions ∧ e.start ≤ m ∧ m < e.stop
     let ofZone (e : CalendarException) : Prop := covers e ∧ e.scope = .zone z
     let ofProfile (e : CalendarException) : Prop := covers e ∧ e.scope = .profile (s.zoneAt z).profile
     let ofCampus (e : CalendarException) : Prop := covers e ∧ e.scope = .campus
     ((∃ e, ofZone e) → (s.effectiveOpen z m = true ↔ ∀ e, ofZone e → e.opens = true))
       ∧ ((¬∃ e, ofZone e) → (∃ e, ofProfile e) →
           (s.effectiveOpen z m = true ↔ ∀ e, ofProfile e → e.opens = true))
       ∧ ((¬∃ e, ofZone e) → (¬∃ e, ofProfile e) → (∃ e, ofCampus e) →
           (s.effectiveOpen z m = true ↔ ∀ e, ofCampus e → e.opens = true))
       ∧ ((¬∃ e, ofZone e) → (¬∃ e, ofProfile e) → (¬∃ e, ofCampus e) →
           (s.effectiveOpen z m = true ↔ slotOpen (s.profileAt (s.zoneAt z).profile) (weekSlot m) = true)))
    ∧ ((∀ (s : State) (z t span : Nat), 0 < span →
           (s.fits z t span = true
             ↔ t + span - 1 ≤ 4294967295 ∧ ∀ m, t ≤ m → m ≤ t + span - 1 → s.effectiveOpen z m = true))
         ∧ ∀ f : Figures, spanOf f .duration = f.ratedDuration ∧ f.functionLength ≤ spanOf f .function * 60
           ∧ spanOf f .function * 60 < f.functionLength + 60)

/-! ### The luminaire register (chapter 01) -/

/-- R18 and R19: ENROL. -/
def Obligations.Enrol : Prop :=
  ∀ (slot : Half) (segment address zone cls count : Byte) (places : List Half) (s : State),
    let c := Instr.enrol slot segment address zone cls count places
    let i := slot.toNat
    let l := (places.take count.toNat).map (·.toNat)
    Ready c s →
    Examined
      [(4095 < i ∨ 15 < segment.toNat ∨ 15 < cls.toNat ∨ 6 < count.toNat ∨ (∃ n ∈ l, 4095 < n), .outOfRange),
        (s.record? i ≠ none, .slotInUse),
        ((s.classAt cls.toNat).figures = none, .classUndefined),
        ((s.zoneAt zone.toNat).isDefined = false, .zoneUndefined),
        (s.locate segment.toNat address.toNat ≠ none, .addressTaken),
        ((∃ n ∈ l, s.record? n = none) ∨ i ∈ l ∨ ¬l.Nodup, .neighbourInvalid),
        ((∃ n ∈ l, ∃ r, s.record? n = some r ∧ 6 ≤ r.neighbours.length), .neighbourFull),
        (s.clock.isSet = false, .clockUnset)]
      (EndsWith c s)
      (Completes c s fun t =>
        t.record? i
            = some
              { segment := segment.toNat, address := address.toNat, zone := zone.toNat, cls := cls.toNat
                neighbours := l, state := .ready, enrolMinute := s.clock.value, lastFunction := none
                lastDuration := none, hold := none, requested := none, shortInterval := false, noAnswer := 0
                retirePending := false, lastOutcome := none }
          ∧ (∀ n ∈ l, ∀ r, s.record? n = some r → t.record? n = some { r with neighbours := r.neighbours ++ [i] })
          ∧ (∀ n, n ≠ i → n ∉ l → t.record? n = s.record? n)
          ∧ t.zoneAt zone.toNat
            = { s.zoneAt zone.toNat with population := (s.zoneAt zone.toNat).population + 1 }
          ∧ (∀ z, z ≠ zone.toNat → t.zoneAt z = s.zoneAt z)
          ∧ t.classAt cls.toNat = { s.classAt cls.toNat with users := (s.classAt cls.toNat).users + 1 }
          ∧ (∀ k, k ≠ cls.toNat → t.classAt k = s.classAt k)
          ∧ t.locate segment.toNat address.toNat = some i
          ∧ (∀ g a, a < 256 → ¬(g = segment.toNat ∧ a = address.toNat) → t.locate g a = s.locate g a)
          ∧ t
            = { s with
                luminaires := t.luminaires
                zones := t.zones
                classes := t.classes
                lookup := t.lookup
                port := (s.finish .done).port })

/-- R20 to R23: AMEND. A selected value is a change when it differs from the record's own; for the neighbour list that
is when it is not the same set. -/
def Obligations.Amend : Prop :=
  ∀ (slot : Half) (selection segment address zone cls count : Byte) (places : List Half) (s : State),
    let c := Instr.amend slot selection segment address zone cls count places
    let i := slot.toNat
    let l := (places.take count.toNat).map (·.toNat)
    let selected (n : Nat) : Prop := selection.getLsbD n = true
    Ready c s →
    Examined
      [(4095 < i ∨ (selected 0 ∧ 15 < segment.toNat) ∨ (selected 2 ∧ 15 < cls.toNat)
          ∨ (selected 3 ∧ (6 < count.toNat ∨ ∃ n ∈ l, 4095 < n)), .outOfRange),
        (s.record? i = none, .notEnrolled)]
      (EndsWith c s)
      (∀ r, s.record? i = some r →
        let location : Prop := selected 0 ∧ ¬(segment.toNat = r.segment ∧ address.toNat = r.address)
        let rezone : Prop := selected 1 ∧ zone.toNat ≠ r.zone
        let reclass : Prop := selected 2 ∧ cls.toNat ≠ r.cls
        let relink : Prop := selected 3 ∧ ¬∀ n, n ∈ l ↔ n ∈ r.neighbours
        let busy : Prop := r.state = .ordered ∨ r.state = .testing
        let u := if r.state = .ready then 0 else 1
        Examined
          [(r.retirePending = true, .wrongState),
            (busy ∧ (location ∨ reclass), .inTest),
            (reclass ∧ (s.classAt cls.toNat).figures = none, .classUndefined),
            (rezone ∧ (s.zoneAt zone.toNat).isDefined = false, .zoneUndefined),
            (location ∧ s.locate segment.toNat address.toNat ≠ none, .addressTaken),
            (selected 3 ∧ ((∃ n ∈ l, s.record? n = none) ∨ i ∈ l ∨ ¬l.Nodup), .neighbourInvalid),
            (relink ∧ (∃ n ∈ l, n ∉ r.neighbours ∧ ∃ q, s.record? n = some q ∧ 6 ≤ q.neighbours.length),
              .neighbourFull),
            (relink ∧ busy
                ∧ (∃ n ∈ l, n ∉ r.neighbours
                  ∧ ∃ q, s.record? n = some q ∧ (q.state = .ordered ∨ q.state = .testing)), .neighbourBusy),
            (¬location ∧ ¬rezone ∧ ¬reclass ∧ ¬relink, .noEffect)]
          (EndsWith c s)
          (Completes c s fun t =>
            (∃ r', t.record? i = some r'
                ∧ (location → r'.segment = segment.toNat ∧ r'.address = address.toNat)
                ∧ (¬location → r'.segment = r.segment ∧ r'.address = r.address)
                ∧ (rezone → r'.zone = zone.toNat) ∧ (¬rezone → r'.zone = r.zone)
                ∧ (reclass → r'.cls = cls.toNat) ∧ (¬reclass → r'.cls = r.cls)
                ∧ (relink → r'.neighbours = l) ∧ (¬relink → r'.neighbours = r.neighbours)
                ∧ r'
                  = { r with
                      segment := r'.segment
                      address := r'.address
                      zone := r'.zone
                      cls := r'.cls
                      neighbours := r'.neighbours })
              ∧ (∀ n, n ≠ i → s.record? n = none → t.record? n = none)
              ∧ (∀ n q, n ≠ i → s.record? n = some q →
                (relink → n ∈ l → n ∉ r.neighbours →
                    t.record? n = some { q with neighbours := q.neighbours ++ [i] })
                  ∧ (relink → n ∉ l → n ∈ r.neighbours →
                    t.record? n = some { q with neighbours := q.neighbours.filter fun m => m != i })
                  ∧ (¬relink ∨ (n ∈ l ↔ n ∈ r.neighbours) → t.record? n = some q))
              ∧ (rezone →
                t.zoneAt r.zone
                    = { s.zoneAt r.zone with
                        population := (s.zoneAt r.zone).population - 1
                        uncovered := (s.zoneAt r.zone).uncovered - u }
                  ∧ t.zoneAt zone.toNat
                    = { s.zoneAt zone.toNat with
                        population := (s.zoneAt zone.toNat).population + 1
                        uncovered := (s.zoneAt zone.toNat).uncovered + u }
                  ∧ ∀ z, z ≠ r.zone → z ≠ zone.toNat → t.zoneAt z = s.zoneAt z)
              ∧ (¬rezone → t.zones = s.zones)
              ∧ (reclass →
                t.classAt r.cls = { s.classAt r.cls with users := (s.classAt r.cls).users - 1 }
                  ∧ t.classAt cls.toNat = { s.classAt cls.toNat with users := (s.classAt cls.toNat).users + 1 }
                  ∧ ∀ k, k ≠ r.cls → k ≠ cls.toNat → t.classAt k = s.classAt k)
              ∧ (¬reclass → t.classes = s.classes)
              ∧ (location → r.address < 256 →
                t.locate segment.toNat address.toNat = some i ∧ t.locate r.segment r.address = none
                  ∧ ∀ g a, a < 256 → ¬(g = segment.toNat ∧ a = address.toNat) → ¬(g = r.segment ∧ a = r.address) →
                    t.locate g a = s.locate g a)
              ∧ (¬location → t.lookup = s.lookup)
              ∧ t
                = { s with
                    luminaires := t.luminaires
                    zones := t.zones
                    classes := t.classes
                    lookup := t.lookup
                    port := (s.finish .done).port }))

/-- R24 and R25: RETIRE, at once or deferred. R24: freeing a record. -/
def Obligations.RetireAndFree : Prop :=
  (∀ (slot : Half) (s : State),
     let c := Instr.retire slot
     let i := slot.toNat
     Ready c s →
     Examined
       [(4095 < i, .outOfRange), (s.record? i = none, .notEnrolled),
         ((∃ r, s.record? i = some r ∧ r.retirePending = true), .noEffect)]
       (EndsWith c s)
       (∀ r, s.record? i = some r →
         (r.state = .ordered ∨ r.state = .testing →
           Completes c s fun t =>
             t.record? i = some { r with retirePending := true } ∧ (∀ n, n ≠ i → t.record? n = s.record? n)
               ∧ t = { s with luminaires := t.luminaires, port := (s.finish .deferred).port })
           ∧ (¬(r.state = .ordered ∨ r.state = .testing) →
             Completes c s fun t => t = (s.freeRecord i r).finish .done)))
    ∧ (∀ (s : State) (i : Nat) (r : Record), s.record? i = some r →
         let t := s.freeRecord i r
         t.record? i = none
           ∧ (∀ n q, n ≠ i → s.record? n = some q → n ∈ r.neighbours →
               t.record? n = some { q with neighbours := q.neighbours.filter fun m => m != i })
           ∧ (∀ n, n ≠ i → n ∉ r.neighbours → t.record? n = s.record? n)
           ∧ (∀ n, s.record? n = none → t.record? n = none)
           ∧ t.zoneAt r.zone
             = { s.zoneAt r.zone with
                 population := (s.zoneAt r.zone).population - 1
                 uncovered := (s.zoneAt r.zone).uncovered - if r.state = .ready then 0 else 1 }
           ∧ (∀ z, z ≠ r.zone → t.zoneAt z = s.zoneAt z)
           ∧ t.classAt r.cls = { s.classAt r.cls with users := (s.classAt r.cls).users - 1 }
           ∧ (∀ k, k ≠ r.cls → t.classAt k = s.classAt k)
           ∧ t.locate r.segment r.address = none
           ∧ (r.address < 256 → ∀ g a, a < 256 → ¬(g = r.segment ∧ a = r.address) → t.locate g a = s.locate g a)
           ∧ t
             = { s with
                 luminaires := t.luminaires, zones := t.zones, classes := t.classes, lookup := t.lookup })

/-- R5: WRITE CLASS. R6: CLEAR CLASS. -/
def Obligations.ClassCommands : Prop :=
  (∀ (cls : Byte) (fl rd fi di : Half) (ew gr rf : Byte) (rmin rmax : Half) (s : State),
     let c := Instr.writeClass cls fl rd fi di ew gr rf rmin rmax
     let top := max 60 (min rmax.toNat 4320)
     let clamped : Prop :=
       fl.toNat < 10 ∨ 600 < fl.toNat ∨ rd.toNat < 30 ∨ 240 < rd.toNat ∨ fi.toNat < 1 ∨ 92 < fi.toNat ∨ di.toNat < 30
         ∨ 730 < di.toNat ∨ 30 < ew.toNat ∨ 60 < gr.toNat ∨ rf.toNat < 16 ∨ 1440 < rmin.toNat ∨ rmax.toNat < 60
         ∨ 4320 < rmax.toNat ∨ top < min rmin.toNat 1440
     Ready c s →
     Examined [(15 < cls.toNat, .outOfRange)] (EndsWith c s)
       (Completes c s fun t =>
         t.classAt cls.toNat
             = { figures :=
                   some
                     { functionLength := max 10 (min fl.toNat 600)
                       ratedDuration := max 30 (min rd.toNat 240)
                       functionInterval := max 1 (min fi.toNat 92)
                       durationInterval := max 30 (min di.toNat 730)
                       earlyWindow := min ew.toNat 30
                       grace := min gr.toNat 60
                       rechargeFactor := max 16 rf.toNat
                       rechargeMin := min (min rmin.toNat 1440) top
                       rechargeMax := top }
                 users := (s.classAt cls.toNat).users }
           ∧ (∀ k, k ≠ cls.toNat → t.classAt k = s.classAt k)
           ∧ (clamped → t.port = (s.finish .doneClamped).port) ∧ (¬clamped → t.port = (s.finish .done).port)
           ∧ t = { s with classes := t.classes, port := t.port }))
    ∧ (∀ (cls : Byte) (s : State),
         let c := Instr.clearClass cls
         Ready c s →
         Examined
           [(15 < cls.toNat, .outOfRange), ((s.classAt cls.toNat).figures = none, .noEffect),
             (0 < (s.classAt cls.toNat).users, .inUse)]
           (EndsWith c s)
           (Completes c s fun t =>
             t.classAt cls.toNat = { figures := none, users := 0 } ∧ (∀ k, k ≠ cls.toNat → t.classAt k = s.classAt k)
               ∧ t = { s with classes := t.classes, port := (s.finish .done).port }))

/-- R10, R11 and R12: WRITE ZONE, SET ZONE HOLD, CLEAR ZONE. R14: WRITE SEGMENT. -/
def Obligations.ZoneAndSegmentCommands : Prop :=
  (∀ (zone : Byte) (s : State),
     let z := zone.toNat
     (∀ profile percent : Byte,
       let c := Instr.writeZone zone profile percent
       Ready c s →
       Examined [(31 < profile.toNat, .outOfRange)] (EndsWith c s)
         (Completes c s fun t =>
           t.zoneAt z
               = { s.zoneAt z with
                   isDefined := true
                   profile := profile.toNat
                   percent := if percent.toNat = 0 then 1 else if 100 < percent.toNat then 100 else percent.toNat }
             ∧ (∀ y, y ≠ z → t.zoneAt y = s.zoneAt y)
             ∧ t
               = { s with
                   zones := t.zones
                   port :=
                     (s.finish (if percent.toNat = 0 ∨ 100 < percent.toNat then .doneClamped else .done)).port }))
       ∧ (∀ flag : Byte,
         let c := Instr.setZoneHold zone flag
         Ready c s →
         Examined
           [((s.zoneAt z).isDefined = false, .zoneUndefined),
             (((s.zoneAt z).held = true ↔ flag ≠ 0), .noEffect)]
           (EndsWith c s)
           (Completes c s fun t =>
             (∃ held, (held = true ↔ flag ≠ 0) ∧ t.zoneAt z = { s.zoneAt z with held := held })
               ∧ (∀ y, y ≠ z → t.zoneAt y = s.zoneAt y)
               ∧ t = { s with zones := t.zones, port := (s.finish .done).port }))
       ∧ (Ready (.clearZone zone) s →
         Examined
           [((s.zoneAt z).isDefined = false, .noEffect), (0 < (s.zoneAt z).population, .inUse)]
           (EndsWith (.clearZone zone) s)
           (Completes (.clearZone zone) s fun t =>
             t.zoneAt z
                 = { isDefined := false, profile := 0, percent := 100, held := false, population := 0
                     uncovered := (s.zoneAt z).uncovered }
               ∧ (∀ y, y ≠ z → t.zoneAt y = s.zoneAt y)
               ∧ t = { s with zones := t.zones, port := (s.finish .done).port })))
    ∧ (∀ (segment enabled cap : Byte) (s : State),
         let c := Instr.writeSegment segment enabled cap
         Ready c s →
         Examined [(15 < segment.toNat, .outOfRange)] (EndsWith c s)
           (Completes c s fun t =>
             (∃ on, (on = true ↔ enabled ≠ 0)
                 ∧ t.segmentAt segment.toNat
                   = { s.segmentAt segment.toNat with
                       enabled := on
                       cap := if cap.toNat = 0 then 1 else if 8 < cap.toNat then 8 else cap.toNat })
               ∧ (∀ g, g ≠ segment.toNat → t.segmentAt g = s.segmentAt g)
               ∧ t
                 = { s with
                     segments := t.segments
                     port := (s.finish (if cap.toNat = 0 ∨ 8 < cap.toNat then .doneClamped else .done)).port }))

/-! ### Luminaire test states (chapter 04) -/

/-- R80 and R81: REQUEST TEST and CANCEL REQUEST (the kind coded as a test kind: notes/assumptions/12.md). R82 and R83:
ACCEPT REPAIR and REVIVE. -/
def Obligations.RequestsRepairRevival : Prop :=
  (∀ (slot : Half) (s : State),
     let i := slot.toNat
     (∀ kind : Byte,
       let c := Instr.requestTest slot kind
       Ready c s →
       Examined
         [(4095 < i ∨ (kind ≠ 0 ∧ kind ≠ 1), .outOfRange), (s.record? i = none, .notEnrolled),
           ((∃ r, s.record? i = some r ∧ r.retirePending = true), .wrongState),
           ((∃ r k, s.record? i = some r ∧ r.requested = some k ∧ (k = .function ↔ kind = 0)), .noEffect)]
         (EndsWith c s)
         (∀ r k, s.record? i = some r → (k = .function ↔ kind = 0) →
           Completes c s fun t =>
             t.record? i = some { r with requested := some k } ∧ (∀ n, n ≠ i → t.record? n = s.record? n)
               ∧ t = { s with luminaires := t.luminaires, port := (s.finish .done).port }))
       ∧ (Ready (.cancelRequest slot) s →
         Examined
           [(4095 < i, .outOfRange), (s.record? i = none, .notEnrolled),
             ((∃ r, s.record? i = some r ∧ r.retirePending = true), .wrongState),
             ((∃ r, s.record? i = some r ∧ r.requested = none), .noEffect)]
           (EndsWith (.cancelRequest slot) s)
           (∀ r, s.record? i = some r →
             Completes (.cancelRequest slot) s fun t =>
               t.record? i = some { r with requested := none } ∧ (∀ n, n ≠ i → t.record? n = s.record? n)
                 ∧ t = { s with luminaires := t.luminaires, port := (s.finish .done).port })))
    ∧ (∀ (slot : Half) (s : State),
         let i := slot.toNat
         (Ready (.acceptRepair slot) s →
           Examined
             [(4095 < i, .outOfRange), (s.record? i = none, .notEnrolled),
               ((∃ r, s.record? i = some r ∧ r.state ≠ .faulty), .noEffect)]
             (EndsWith (.acceptRepair slot) s)
             (∀ r, s.record? i = some r →
               Completes (.acceptRepair slot) s fun t =>
                 t.record? i = some { r with state := .ready, hold := none, requested := some .duration }
                   ∧ (∀ n, n ≠ i → t.record? n = s.record? n)
                   ∧ t.zoneAt r.zone = { s.zoneAt r.zone with uncovered := (s.zoneAt r.zone).uncovered - 1 }
                   ∧ (∀ z, z ≠ r.zone → t.zoneAt z = s.zoneAt z)
                   ∧ t = { s with luminaires := t.luminaires, zones := t.zones, port := (s.finish .done).port }))
           ∧ (Ready (.revive slot) s →
             Examined
               [(4095 < i, .outOfRange), (s.record? i = none, .notEnrolled),
                 ((∃ r, s.record? i = some r ∧ r.state ≠ .silent), .noEffect)]
               (EndsWith (.revive slot) s)
               (∀ r, s.record? i = some r →
                 Completes (.revive slot) s fun t =>
                   t.record? i = some { r with state := .ready, hold := none, noAnswer := 0 }
                     ∧ (∀ n, n ≠ i → t.record? n = s.record? n)
                     ∧ t.zoneAt r.zone = { s.zoneAt r.zone with uncovered := (s.zoneAt r.zone).uncovered - 1 }
                     ∧ (∀ z, z ≠ r.zone → t.zoneAt z = s.zoneAt z)
                     ∧ t = { s with luminaires := t.luminaires, zones := t.zones, port := (s.finish .done).port })))

/-- R71 to R78: the fields and the state that each verdict calls for, against the record's class and the clock at the
close; in loopback the last passes and the short interval flag stand. R71 and R118 give PASS_LOW to a duration test
only: what it would write for a function test is the model's choice for a case no run reaches (notes/assumptions/16.md).
-/
def Obligations.VerdictTable : Prop :=
  ∀ (s : State) (r : Record) (h : Closing),
    let recharge :=
      min (s.now + rechargeHold (s.figures r.cls) (dischargedAtClose h.elapsed h.run)) 4294967295
    let retry (minutes : Nat) := min (s.now + minutes) 4294967295
    let passed (low : Bool) : Record :=
      match s.link.loopback, h.kind with
      | true, _ => { r with state := .recharging, requested := none, noAnswer := 0, hold := some recharge }
      | false, .function =>
        { r with
          state := .recharging
          requested := none
          noAnswer := 0
          hold := some recharge
          lastFunction := some s.now }
      | false, .duration =>
        { r with
          state := .recharging
          requested := none
          noAnswer := 0
          hold := some recharge
          lastFunction := some s.now
          lastDuration := some s.now
          shortInterval := low }
    (h.verdict = .pass → s.judged r h = passed false)
      ∧ (h.verdict = .passLow → s.judged r h = passed true)
      ∧ (h.verdict = .failCutoff ∨ h.verdict = .failLamp →
        s.judged r h = { r with state := .faulty, requested := none, hold := none })
      ∧ (h.verdict = .refused → h.detail = some .notCharged ∨ h.detail = some .localTest →
        s.judged r h = { r with state := .ready, hold := some (retry 60) })
      ∧ ((h.verdict = .refused ∧ h.detail = some .notPresent)
          ∨ (h.verdict = .noAnswer ∧ h.detail = some .beforeStart) →
        (r.noAnswer < 2 →
            s.judged r h = { r with state := .ready, noAnswer := r.noAnswer + 1, hold := some (retry 30) })
          ∧ (2 ≤ r.noAnswer → s.judged r h = { r with state := .silent, noAnswer := 3, hold := none }))
      ∧ (h.verdict = .noAnswer ∧ h.detail = some .afterStart →
        (r.noAnswer < 2 →
            s.judged r h = { r with state := .recharging, noAnswer := r.noAnswer + 1, hold := some recharge })
          ∧ (2 ≤ r.noAnswer → s.judged r h = { r with state := .silent, noAnswer := 3, hold := none }))
      ∧ (h.verdict = .void →
        (h.detail = some .beforeStart → s.judged r h = { r with state := .ready, hold := none })
          ∧ (h.detail = some .afterStart →
            s.judged r h = { r with state := .recharging, hold := some recharge }))

/-! ### Campus clock (chapter 02) -/

/-- R28, R39, R69, R88 and R162: what each owner does at a clock advance to `v`. -/
def Obligations.ClockAdvance : Prop :=
  ∀ (s : State) (v : Nat), s.Canonical → s.ZoneCounts →
    let t := s.clockAdvance v
    (∀ i, s.record? i = none → t.record? i = none)
      ∧ (∀ i r m, s.record? i = some r → r.hold = some m → m ≤ v →
        t.record? i = some { r with hold := none, state := if r.state = .recharging then .ready else r.state })
      ∧ (∀ i r, s.record? i = some r → (∀ m, r.hold = some m → v < m) → t.record? i = some r)
      ∧ (∀ z,
        (t.zoneAt z).uncovered
              + s.countRecords (fun r => r.zone == z && r.state == .recharging && r.hold.any fun m => decide (m ≤ v))
            = (s.zoneAt z).uncovered
          ∧ t.zoneAt z = { s.zoneAt z with uncovered := (t.zoneAt z).uncovered })
      ∧ t.exceptions = s.exceptions.filter (fun e => decide (v < e.stop))
      ∧ (s.planner.mode = .repeating ∧ s.planner.phase = .idle →
        t.planner
          = { s.planner with
              phase := .visiting, passScope := s.planner.scope, cursor := 0, working := [], tally := 0 })
      ∧ (¬(s.planner.mode = .repeating ∧ s.planner.phase = .idle) → t.planner = s.planner)
      ∧ ((s.programme.state = .suspended ∧ ∃ m, s.programme.resumeMinute = some m ∧ m ≤ v) →
        t.programme = { state := .running, resumeMinute := none }
          ∧ t.causeAt .programme = { s.causeAt .programme with pending := true, carried := 1 }
          ∧ (∀ c, c ≠ .programme → t.causeAt c = s.causeAt c)
          ∧ t.attention.changeMap = s.attention.changeMap)
      ∧ (¬(s.programme.state = .suspended ∧ ∃ m, s.programme.resumeMinute = some m ∧ m ≤ v) →
        t.programme = s.programme ∧ t.attention = s.attention)
      ∧ t
        = { s with
            luminaires := t.luminaires
            zones := t.zones
            exceptions := t.exceptions
            planner := t.planner
            programme := t.programme
            attention := t.attention }

/-- R29 and R30: SET CLOCK and TRIM CLOCK, each change of the value with one clock advance. -/
def Obligations.SetAndTrimClock : Prop :=
  (∀ (minute : Word) (s : State),
      let c := Instr.setClock minute
      Ready c s →
      Examined [(s.programme.state ≠ .stopped, .wrongState)] (EndsWith c s)
        (Completes c s fun t =>
          t
            = (({ s with clock := { value := minute.toNat, isSet := true, seconds := 0 } }).clockAdvance
                minute.toNat).finish .done))
    ∧ ∀ (amount : Byte) (s : State),
      let c := Instr.trimClock amount
      let a : Int := if amount.toInt < -30 then -30 else if 30 < amount.toInt then 30 else amount.toInt
      let moved : Int := (s.clock.value : Int) + a
      let v : Nat := if moved < 0 then 0 else if 4294967295 < moved then 4294967295 else moved.toNat
      Ready c s →
      Examined
        [(s.clock.isSet = false, .clockUnset),
          (v = s.clock.value ∧ amount.toInt = a, .noEffect),
          (v = s.clock.value, .doneClamped)]
        (EndsWith c s)
        (Completes c s fun t =>
          t
            = (({ s with clock := { s.clock with value := v } }).clockAdvance v).finish
                (if amount.toInt = a then .done else .doneClamped))

/-- R27, R112 and R138: the second tick. That it leaves an expiry and the stall to steps of their own is the model's choice
(notes/assumptions/4.md, 5.md and 6.md). -/
def Obligations.SecondTick : Prop :=
  ∀ s : State, s.Canonical → s.calm = true →
    Completes .secondTick s fun t =>
      (∀ k,
          ((s.channelAt k).state = .free → t.channelAt k = s.channelAt k)
            ∧ ((s.channelAt k).state ≠ .free →
              t.channelAt k
                = { s.channelAt k with
                    elapsed :=
                      if (s.channelAt k).started = true then min 65535 ((s.channelAt k).elapsed + 1)
                      else (s.channelAt k).elapsed
                    target :=
                      if (s.channelAt k).role = .none then (s.channelAt k).target else (s.channelAt k).target - 1 }))
        ∧ (s.link.configured = true ∧ s.link.dispatch ≠ [] →
          t.link
            = { s.link with
                stallCount := min 600 (s.link.stallCount + 1)
                stallDue := decide (s.answerTime ≤ min 600 (s.link.stallCount + 1) ∧ s.link.stallLatch = false) })
        ∧ (¬(s.link.configured = true ∧ s.link.dispatch ≠ []) → t.link = s.link)
        ∧ ∃ u : State,
          t = { u with channels := t.channels, link := t.link }
            ∧ (s.clock.isSet = false → u = s)
            ∧ (s.clock.isSet = true → s.clock.seconds < 59 →
              u = { s with clock := { s.clock with seconds := s.clock.seconds + 1 } })
            ∧ (s.clock.isSet = true → 59 ≤ s.clock.seconds → s.clock.value < 4294967295 →
              u = ({ s with clock := { s.clock with value := s.clock.value + 1, seconds := 0 } }).clockAdvance
                (s.clock.value + 1))
            ∧ (s.clock.isSet = true → 59 ≤ s.clock.seconds → s.clock.value = 4294967295 →
              u = ({ s with clock := { s.clock with seconds := 0 } }).clockAdvance 4294967295)

/-! ### Profiles and exceptions (chapter 02) -/

/-- R35: WRITE PROFILE. R37 and R38: ADD EXCEPTION and DROP EXCEPTION. The entry that a command's codes and index spell
is `e`. -/
def Obligations.ProfileAndExceptionCommands : Prop :=
  (∀ (profile : Byte) (slots : Slots) (s : State),
     let c := Instr.writeProfile profile slots
     Ready c s →
     Examined [(31 < profile.toNat, .outOfRange)] (EndsWith c s)
       (Completes c s fun t =>
         t.profileAt profile.toNat = slots ∧ (∀ p, p ≠ profile.toNat → t.profileAt p = s.profileAt p)
           ∧ t = { s with profiles := t.profiles, port := (s.finish .done).port }))
    ∧ (∀ (start stop : Word) (scope index effect : Byte) (s : State),
         let add := Instr.addException start stop scope index effect
         let drop := Instr.dropException start stop scope index effect
         let bad : Prop := 2 < scope.toNat ∨ (scope = 1 ∧ 31 < index.toNat) ∨ 1 < effect.toNat
         let e : CalendarException :=
           { start := start.toNat
             stop := stop.toNat
             scope :=
               if scope = 0 then .campus else if scope = 1 then .profile index.toNat else .zone index.toNat
             opens := effect == 1 }
         (Ready add s →
           Examined
             [(bad, .outOfRange), (stop.toNat ≤ start.toNat, .outOfRange), (e ∈ s.exceptions, .duplicate),
               (64 ≤ s.exceptions.length, .listFull),
               (s.clock.isSet = true ∧ stop.toNat ≤ s.clock.value, .noEffect)]
             (EndsWith add s)
             (s.exceptions.Pairwise (fun a b => a.start ≤ b.start) →
               Completes add s fun t =>
                 (∃ before after, s.exceptions = before ++ after ∧ t.exceptions = before ++ e :: after
                     ∧ (∀ x ∈ before, x.start ≤ start.toNat) ∧ ∀ x ∈ after, start.toNat < x.start)
                   ∧ t = { s with exceptions := t.exceptions, port := (s.finish .done).port }))
           ∧ (Ready drop s →
             Examined [(bad, .outOfRange), (e ∉ s.exceptions, .notFound)] (EndsWith drop s)
               (Completes drop s fun t =>
                 (∃ before after, s.exceptions = before ++ e :: after ∧ e ∉ before ∧ t.exceptions = before ++ after)
                   ∧ t = { s with exceptions := t.exceptions, port := (s.finish .done).port })))

/-! ### The planner (chapter 05) -/

/-- R86, R87, R88 and R92: SET SWEEP, with the abandoning of a pass, and START SWEEP. That an
abandoned pass leaves an empty working list and tally is the model's reading (notes/assumptions/11.md). -/
def Obligations.SweepCommands : Prop :=
  (∀ (mode scope zone : Byte) (s : State),
      let c := Instr.setSweep mode scope zone
      let sc : SweepScope := if scope = 0 then .all else .zone zone.toNat
      let m : SweepMode := if mode = 0 then .off else if mode = 1 then .single else .repeating
      Ready c s →
      Examined
        [(2 < mode.toNat ∨ 1 < scope.toNat, .outOfRange),
          (mode ≠ 0 ∧ s.clock.isSet = false, .clockUnset),
          (m = s.planner.mode ∧ sc = s.planner.scope ∧ s.planner.phase = .idle, .noEffect)]
        (EndsWith c s)
        (Completes c s fun t =>
          (m ≠ .off ∨ s.planner.phase = .idle → t.planner = { s.planner with mode := m, scope := sc })
            ∧ (m = .off → s.planner.phase = .visiting →
              t.planner = { s.planner with mode := m, scope := sc, phase := .idle, working := [], tally := 0 })
            ∧ (m = .off → s.planner.phase = .dispatching →
              t.planner = { s.planner with mode := m, scope := sc, phase := .idle })
            ∧ t = { s with planner := t.planner, port := (s.finish .done).port }))
    ∧ ∀ s : State, Ready .startSweep s →
      Examined
        [(s.clock.isSet = false, .clockUnset),
          (s.planner.mode = .off ∨ s.planner.mode = .repeating, .wrongState),
          (s.planner.phase = .visiting ∨ s.planner.phase = .dispatching, .inProgress)]
        (EndsWith .startSweep s)
        (Completes .startSweep s fun t =>
          t
            = { s with
                planner :=
                  { s.planner with
                    phase := .visiting, passScope := s.planner.scope, cursor := 0, working := [], tally := 0 }
                port := (s.finish .done).port })

/-- R89 and R93: a visit takes the lowest record at or above the cursor that is in the pass scope, moves the cursor past
it, counts it if either kind is overdue, and lets the entry it offers join the working list. That a visit outside
VISITING, or with no record of the scope left, has no effect is the model's reading (notes/assumptions/2.md). -/
def Obligations.Visit : Prop :=
  ∀ s : State, s.Canonical → s.calm = true →
    let inScope (r : Record) : Prop := s.planner.passScope = .all ∨ s.planner.passScope = .zone r.zone
    (s.planner.phase ≠ .visiting → Idles .visit s)
      ∧ ((∀ i r, s.record? i = some r → s.planner.cursor ≤ i → ¬inScope r) → Idles .visit s)
      ∧ ∀ i r, s.planner.phase = .visiting → s.record? i = some r → s.planner.cursor ≤ i → inScope r →
        (∀ j q, s.record? j = some q → s.planner.cursor ≤ j → j < i → ¬inScope q) →
        let f := s.figures r.cls
        let late : Prop := deadlineMinute f r .function ≤ s.now ∨ deadlineMinute f r .duration ≤ s.now
        Completes .visit s fun t =>
          t.planner.cursor = i + 1
            ∧ (late → t.planner.tally = s.planner.tally + 1) ∧ (¬late → t.planner.tally = s.planner.tally)
            ∧ (s.entryFor i r = none → t.planner.working = s.planner.working)
            ∧ (∀ c, s.entryFor i r = some c → t.planner.working = joinWorking c s.planner.working)
            ∧ t
              = { s with
                  planner :=
                    { s.planner with
                      cursor := t.planner.cursor, tally := t.planner.tally, working := t.planner.working } }

/-- R94 to R97: which entry a visited record offers. -/
def Obligations.OfferedEntry : Prop :=
  ∀ (s : State) (i : Nat) (r : Record),
    let f := s.figures r.cls
    let isOpen (k : Kind) : Prop := eligibleFrom f r k ≤ s.now
    let fits (k : Kind) : Prop := s.fits r.zone s.now (spanOf f k) = true
    let eligible : Prop :=
      r.state = .ready ∧ r.hold = none ∧ (s.zoneAt r.zone).held = false
        ∧ (isOpen .function ∨ isOpen .duration ∨ r.requested ≠ none)
    let offers (k : Kind) : Prop :=
      s.entryFor i r
        = some { index := i, kind := k, requested := r.requested.isSome, deadline := deadlineMinute f r k }
    (¬eligible → s.entryFor i r = none)
      ∧ (eligible → r.requested = some .duration → fits .duration → offers .duration)
      ∧ (eligible → r.requested = some .duration → ¬fits .duration → s.entryFor i r = none)
      ∧ (eligible → r.requested = some .function → isOpen .duration ∧ fits .duration → offers .duration)
      ∧ (eligible → r.requested = some .function → ¬(isOpen .duration ∧ fits .duration) → offers .function)
      ∧ (eligible → r.requested = none → isOpen .duration → fits .duration → offers .duration)
      ∧ (eligible → r.requested = none → isOpen .duration → ¬fits .duration → isOpen .function → fits .function →
        offers .function)
      ∧ (eligible → r.requested = none → isOpen .duration → ¬fits .duration → ¬(isOpen .function ∧ fits .function) →
        s.entryFor i r = none)
      ∧ (eligible → r.requested = none → ¬isOpen .duration → fits .function → offers .function)
      ∧ (eligible → r.requested = none → ¬isOpen .duration → ¬fits .function → s.entryFor i r = none)

/-- R98: a new entry joins a candidate list in its place; what a full list drops sorts after all that stay. -/
def Obligations.WorkingList : Prop :=
  ∀ (c : Candidate) (l : List Candidate), CandidateOrder l → c.index ∉ l.map (·.index) →
    CandidateOrder (joinWorking c l)
      ∧ (joinWorking c l).length = min 16 (l.length + 1)
      ∧ (∀ x ∈ joinWorking c l, x = c ∨ x ∈ l)
      ∧ (∀ x, x = c ∨ x ∈ l → x ∉ joinWorking c l → ∀ y ∈ joinWorking c l, y.before x = true)
      ∧ ∀ a b : Candidate, a.index ≠ b.index →
        (a.before b = true
          ↔ (a.requested = true ∧ b.requested = false)
            ∨ (a.requested = b.requested ∧ a.deadline < b.deadline)
            ∨ (a.requested = b.requested ∧ a.deadline = b.deadline ∧ a.index < b.index))

/-- R85, R91 and R180: the completion of a pass. No entry of the list it publishes has been tried, so the trial position
is 0 (R85). That it leaves an empty working list, and the tally as it stands, is the model's reading
(notes/assumptions/11.md), and so is that a completion outside VISITING, or with a record of the scope left, has no
effect (notes/assumptions/2.md). -/
def Obligations.PassCompletion : Prop :=
  ∀ s : State, s.Canonical → s.calm = true →
    let inScope (r : Record) : Prop := s.planner.passScope = .all ∨ s.planner.passScope = .zone r.zone
    (s.planner.phase ≠ .visiting → Idles .passCompletion s)
      ∧ (∀ i r, s.record? i = some r → s.planner.cursor ≤ i → inScope r → Idles .passCompletion s)
      ∧ (s.planner.phase = .visiting → (∀ i r, s.record? i = some r → s.planner.cursor ≤ i → ¬inScope r) →
        Completes .passCompletion s fun t =>
          t.planner.published = s.planner.working.map (fun c => { entry := c, outcome := .notTried })
            ∧ t.planner.publishedOverdue = s.planner.tally
            ∧ (s.programme.state = .running → t.planner.phase = .dispatching)
            ∧ (s.programme.state ≠ .running → t.planner.phase = .idle)
            ∧ (s.planner.mode = .single →
              t.planner.mode = .off
                ∧ t.causeAt .programme
                  = { s.causeAt .programme with
                      pending := true
                      carried :=
                        match s.programme.state with
                        | .stopped => 0
                        | .running => 1
                        | .suspended => 2
                        | .halting => 3 })
            ∧ (s.planner.mode ≠ .single →
              t.planner.mode = s.planner.mode ∧ t.causeAt .programme = s.causeAt .programme)
            ∧ (t.causeAt .overdue).carried = s.planner.tally
            ∧ ((t.causeAt .overdue).pending = true ↔ 1 ≤ s.planner.tally)
            ∧ (t.causeAt .overdue).level = (s.causeAt .overdue).level
            ∧ (∀ c, c ≠ .overdue → c ≠ .programme → t.causeAt c = s.causeAt c)
            ∧ t.attention.changeMap = s.attention.changeMap
            ∧ t
              = { s with
                  planner :=
                    { s.planner with
                      published := t.planner.published
                      publishedOverdue := t.planner.publishedOverdue
                      working := []
                      mode := t.planner.mode
                      phase := t.planner.phase
                      trialPosition := 0 }
                  attention := t.attention })

/-- R100, R101, R102, R103 and R106: a trial that dispatches nothing. The checks are examined in order, and the first
that fails writes its outcome. That a trial outside the dispatch phase has no effect is the model's reading
(notes/assumptions/2.md). -/
def Obligations.TrialRefusals : Prop :=
  ∀ s : State, s.calm = true →
    let p := s.planner
    (p.phase ≠ .dispatching → Idles .trial s)
      ∧ (p.phase = .dispatching → s.programme.state ≠ .running ∨ p.published.length ≤ p.trialPosition →
        exec .trial s = .next { s with planner := { p with phase := .idle } })
      ∧ ∀ e, p.phase = .dispatching → s.programme.state = .running → p.published[p.trialPosition]? = some e →
        let k := e.entry.kind
        let valid (r : Record) : Prop :=
          s.record? e.entry.index = some r ∧ r.state = .ready ∧ r.hold = none ∧ (s.zoneAt r.zone).held = false
            ∧ (eligibleFrom (s.figures r.cls) r k ≤ s.now ∨ r.requested = some k)
            ∧ (s.fits r.zone s.now (spanOf (s.figures r.cls) k) = true
              ∨ (k = .function ∧ r.requested = some .function))
        Examined
          [(s.link.threshold ≤ s.link.reports.length, .backlog),
            ((∀ j, j < 32 → (s.channelAt j).state ≠ .free), .noChannel),
            ((¬∃ r, valid r), .gone),
            ((∃ r, valid r ∧ ((s.segmentAt r.segment).enabled = false ∨ (s.segmentAt r.segment).mains ≠ .present)),
              .segmentDown),
            ((∃ r, valid r ∧ (s.segmentAt r.segment).cap ≤ (s.segmentAt r.segment).active), .segmentFull),
            ((∃ r, valid r
                ∧ coverLimit (s.zoneAt r.zone).population (s.zoneAt r.zone).percent ≤ (s.zoneAt r.zone).uncovered),
              .zoneCover),
            ((∃ r, valid r ∧ ∃ n ∈ r.neighbours, ∀ q, s.record? n = some q → q.state ≠ .ready), .neighbour)]
          (fun o =>
            exec .trial s
              = .next
                { s with
                  planner :=
                    { p with
                      published := p.published.set p.trialPosition { e with outcome := o }
                      trialPosition := p.trialPosition + 1
                      phase := if p.published.length ≤ p.trialPosition + 1 then .idle else .dispatching } })
          (s.trialOutcome e.entry = .dispatched)

/-- R66, R104, R106 and R110: a trial whose checks all pass binds the lowest FREE channel, queues the START order, takes
the dispatch mark and records DISPATCHED. -/
def Obligations.TrialDispatches : Prop :=
  ∀ (s : State) (e : PublishedEntry) (k : Nat) (r : Record),
    let p := s.planner
    let c := s.channelAt k
    let i := e.entry.index
    s.calm = true → p.phase = .dispatching → s.programme.state = .running →
    p.published[p.trialPosition]? = some e → s.trialOutcome e.entry = .dispatched →
    k < 32 → c.state = .free → (∀ j, j < k → (s.channelAt j).state ≠ .free) → s.record? i = some r →
    Completes .trial s fun t =>
      t.channelAt k
          = { c with
              state := .ordered
              index := i
              kind := e.entry.kind
              generation := (c.generation + 1) % 16
              started := false
              runSeconds :=
                match e.entry.kind with
                | .function => (s.figures r.cls).functionLength
                | .duration => (s.figures r.cls).ratedDuration * 60
              elapsed := 0
              role := .answer
              target := s.answerTime }
        ∧ (∀ j, j ≠ k → t.channelAt j = s.channelAt j)
        ∧ t.record? i = some { r with state := .ordered } ∧ (∀ n, n ≠ i → t.record? n = s.record? n)
        ∧ t.zoneAt r.zone = { s.zoneAt r.zone with uncovered := (s.zoneAt r.zone).uncovered + 1 }
        ∧ (∀ z, z ≠ r.zone → t.zoneAt z = s.zoneAt z)
        ∧ t.segmentAt r.segment
          = { s.segmentAt r.segment with active := (s.segmentAt r.segment).active + 1 }
        ∧ (∀ g, g ≠ r.segment → t.segmentAt g = s.segmentAt g)
        ∧ t.link
          = { s.link with
              dispatch :=
                s.link.dispatch
                  ++ [{ kind := if e.entry.kind = .function then .startFunction else .startDuration, channel := k
                        generation := (c.generation + 1) % 16, segment := r.segment, address := r.address }]
              stallCount := if s.link.dispatch = [] then 0 else s.link.stallCount }
        ∧ t.planner
          = { p with
              published := p.published.set p.trialPosition { e with outcome := .dispatched }
              trialPosition := p.trialPosition + 1
              phase := if p.published.length ≤ p.trialPosition + 1 then .idle else .dispatching }
        ∧ t
          = { s with
              channels := t.channels
              luminaires := t.luminaires
              zones := t.zones
              segments := t.segments
              link := t.link
              planner := t.planner }

/-! ### Test channels (chapter 06) -/

/-- R108 and R122: SET TIMING and ABORT TEST. -/
def Obligations.TimingAndAbort : Prop :=
  (∀ (seconds : Half) (s : State),
      let n := seconds.toNat
      Ready (.setTiming seconds) s →
      exec (.setTiming seconds) s
        = .next
          ({ s with answerTime := if n < 10 then 10 else if 600 < n then 600 else n }.finish
            (if n < 10 ∨ 600 < n then .doneClamped else .done)))
    ∧ ∀ (slot : Half) (s : State),
      let c := Instr.abortTest slot
      let i := slot.toNat
      let carries (k : Nat) : Prop :=
        k < 32 ∧ (s.channelAt k).state ≠ .free ∧ (s.channelAt k).index = i ∧ ∀ j, j < k →
          ¬((s.channelAt j).state ≠ .free ∧ (s.channelAt j).index = i)
      Ready c s →
      Examined
        [(4095 < i, .outOfRange), (s.record? i = none, .notEnrolled), ((¬∃ k, carries k), .wrongState),
          ((∃ k, carries k ∧ ((s.channelAt k).state = .stopping ∨ (s.channelAt k).state = .aborting)), .noEffect)]
        (EndsWith c s)
        (∀ k r, carries k → s.record? i = some r →
          Completes c s fun t =>
            t.channelAt k
                = { s.channelAt k with state := .aborting, path := .order, role := .answer, target := s.answerTime }
              ∧ (∀ j, j ≠ k → t.channelAt j = s.channelAt j)
              ∧ t.link
                = { s.link with
                    dispatch :=
                      s.link.dispatch
                        ++ [{ kind := .abort, channel := k, generation := (s.channelAt k).generation
                              segment := r.segment, address := r.address }]
                    stallCount := if s.link.dispatch = [] then 0 else s.link.stallCount }
              ∧ t = { s with channels := t.channels, link := t.link, port := (s.finish .done).port })

/-- R113: run expiry, at the tick that brought the run timer to 0. R114: answer expiry, at the tick that brought the
answer timer to 0. R138: the stall of the dispatch queue's head, at the tick that brought the stall count to the answer
time; that tick was taken before whatever close has changed the head since. That these are steps of their own is the
model's choice (notes/assumptions/4.md and 6.md), and so is that they have no effect where no timer stands at 0 and no
stall is marked (notes/assumptions/2.md). -/
def Obligations.Expiries : Prop :=
  (∀ (k : Nat) (s : State),
     let c := s.channelAt k
     let due : Prop := c.state = .running ∧ c.role = .run ∧ c.target = 0
     (¬due → Idles (.runExpiry k) s)
       ∧ ∀ r, due → s.record? c.index = some r →
         Completes (.runExpiry k) s fun t =>
           t.channelAt k = { c with state := .stopping, role := .answer, target := s.answerTime }
             ∧ (∀ j, j ≠ k → t.channelAt j = s.channelAt j)
             ∧ t.link
               = { s.link with
                   dispatch :=
                     s.link.dispatch
                       ++ [{ kind := .stop, channel := k, generation := c.generation, segment := r.segment
                             address := r.address }]
                   stallCount := if s.link.dispatch = [] then 0 else s.link.stallCount }
             ∧ t = { s with channels := t.channels, link := t.link })
    ∧ (∀ (k : Nat) (s : State),
         let c := s.channelAt k
         let due : Prop := c.state ≠ .free ∧ c.state ≠ .running ∧ c.role = .answer ∧ c.target = 0
         let detail : Detail := if c.started = true then .afterStart else .beforeStart
         (¬due → Idles (.answerExpiry k) s)
           ∧ (due → c.state = .ordered →
             exec (.answerExpiry k) s = .next (s.close k .noAnswer (some .beforeStart)))
           ∧ (due → c.state = .stopping → exec (.answerExpiry k) s = .next (s.close k .noAnswer (some .afterStart)))
           ∧ (due → c.state = .aborting → c.path = .order →
             exec (.answerExpiry k) s = .next (s.close k .void (some detail)))
           ∧ (due → c.state = .aborting → c.path = .halt →
             exec (.answerExpiry k) s = .next ((s.close k .void (some detail)).raise .linkStall 0)))
    ∧ (∀ s : State,
         (s.link.stallDue = false → Idles .stall s)
           ∧ (s.link.stallDue = true →
             Completes .stall s fun t =>
               t.link = { s.link with stallDue := false, stallLatch := true }
                 ∧ t.causeAt .linkStall = { s.causeAt .linkStall with pending := true, carried := 0 }
                 ∧ (∀ c, c ≠ .linkStall → t.causeAt c = s.causeAt c)
                 ∧ t = { s with link := t.link, attention := { t.attention with changeMap := s.attention.changeMap } }))

/-- R115 and R140: the report take. A report that fails its check raises LINK_CHECK; one that is not matched is stale.
That a take of the empty queue has no effect is the model's reading (notes/assumptions/2.md). -/
def Obligations.ReportTake : Prop :=
  ∀ s : State, s.calm = true →
    (s.link.reports = [] → Idles .reportTake s)
      ∧ ∀ (w : QueueWord) (rest : List QueueWord), s.link.reports = w :: rest →
        let p := reportOf w
        let u := { s with link := { s.link with reports := rest } }
        let matched : Prop :=
          p.kind ≤ 5 ∧ (s.channelAt p.channel).state ≠ .free ∧ p.generation = (s.channelAt p.channel).generation
            ∧ ∃ r, s.record? (s.channelAt p.channel).index = some r ∧ p.address = r.address
        (queueWordPasses s.link.sense w = false → exec .reportTake s = .next (u.raise .linkCheck 0))
          ∧ (queueWordPasses s.link.sense w = true → ¬matched → exec .reportTake s = .next (u.raise .staleReport 0))
          ∧ (queueWordPasses s.link.sense w = true → matched →
            ∃ kind, reportKindOf p.kind = some kind
              ∧ exec .reportTake s = .next (u.judgeReport p.channel kind p.detail))

/-- R115 to R119: the table of report kinds against channel states. -/
def Obligations.ReportTable : Prop :=
  ∀ (s : State) (k detail : Nat),
    let c := s.channelAt k
    let judged (kind : ReportKind) : State := s.judgeReport k kind detail
    let stale : State := s.raise .staleReport 0
    let ended : Verdict := if c.runSeconds ≤ c.elapsed then .pass else .failCutoff
    let void : State := s.close k .void (some (if c.started = true then .afterStart else .beforeStart))
    (c.state = .ordered →
        (∀ r, s.record? c.index = some r →
            (judged .started).channelAt k
                = { c with state := .running, started := true, role := .run, target := c.runSeconds }
              ∧ (∀ j, j ≠ k → (judged .started).channelAt j = s.channelAt j)
              ∧ (judged .started).record? c.index = some { r with state := .testing }
              ∧ (∀ n, n ≠ c.index → (judged .started).record? n = s.record? n)
              ∧ (r.state = .ordered → ∀ z, (judged .started).zoneAt z = s.zoneAt z)
              ∧ judged .started
                = { s with
                    channels := (judged .started).channels
                    luminaires := (judged .started).luminaires
                    zones := (judged .started).zones })
          ∧ (detail = 1 → judged .refused = s.close k .refused (some .notCharged))
          ∧ (detail = 3 → judged .refused = s.close k .refused (some .localTest))
          ∧ (detail ≠ 1 → detail ≠ 3 → judged .refused = s.close k .refused (some .notPresent))
          ∧ judged .cutoff = stale ∧ judged .lampFault = stale ∧ judged .stopped = stale ∧ judged .aborted = stale)
      ∧ (c.state = .running →
        judged .started = stale ∧ judged .refused = stale ∧ judged .cutoff = s.close k ended none
          ∧ judged .lampFault = s.close k .failLamp none ∧ judged .stopped = stale ∧ judged .aborted = stale)
      ∧ (c.state = .stopping →
        judged .started = stale ∧ judged .refused = stale ∧ judged .cutoff = s.close k ended none
          ∧ judged .lampFault = s.close k .failLamp none
          ∧ (c.kind = .duration → detail = 1 → judged .stopped = s.close k .passLow none)
          ∧ (c.kind = .function ∨ detail ≠ 1 → judged .stopped = s.close k .pass none)
          ∧ judged .aborted = stale)
      ∧ (c.state = .aborting → ∀ kind, judged kind = void)
      ∧ (c.state = .free → ∀ kind, judged kind = stale)

/-- R25, R70, R125, R126, R137 and R164: the close of a bound channel. That its timer target stands is the model's reading
(notes/assumptions/21.md). -/
def Obligations.Close : Prop :=
  ∀ (s : State) (k : Nat) (v : Verdict) (d : Option Detail) (r : Record),
    let c := s.channelAt k
    let h : Closing := { kind := c.kind, verdict := v, detail := d, elapsed := c.elapsed, run := c.runSeconds }
    let after := s.judged r h
    let t := s.close k v d
    let own (o : Order) : Prop := o.channel = k ∧ o.generation = c.generation
    s.record? c.index = some r → k < 32 → c.state ≠ .free →
    t.channelAt k = { c with state := .free, role := .none }
      ∧ (∀ j, j ≠ k → t.channelAt j = s.channelAt j)
      ∧ t.segmentAt r.segment
        = { s.segmentAt r.segment with active := (s.segmentAt r.segment).active - 1 }
      ∧ (∀ g, g ≠ r.segment → t.segmentAt g = s.segmentAt g)
      ∧ (∀ o, o ∈ t.link.dispatch ↔ o ∈ s.link.dispatch ∧ ¬own o) ∧ t.link.dispatch.Sublist s.link.dispatch
      ∧ ((∃ o rest, s.link.dispatch = o :: rest ∧ own o) → t.link.stallCount = 0)
      ∧ ((∀ o rest, s.link.dispatch = o :: rest → ¬own o) → t.link.stallCount = s.link.stallCount)
      ∧ t.link = { s.link with dispatch := t.link.dispatch, stallCount := t.link.stallCount }
      ∧ (r.retirePending = true →
        t.luminaires = (s.freeRecord c.index r).luminaires ∧ t.zones = (s.freeRecord c.index r).zones
          ∧ t.classes = (s.freeRecord c.index r).classes ∧ t.lookup = (s.freeRecord c.index r).lookup
          ∧ t.causeAt .faultFound = s.causeAt .faultFound ∧ t.causeAt .silentFound = s.causeAt .silentFound)
      ∧ (r.retirePending = false →
        t.record? c.index
            = some
              { after with
                lastOutcome :=
                  some
                    { kind := c.kind, verdict := v, detail := d, closeMinute := s.now, measured := c.elapsed
                      permille := capacityPermille v c.elapsed c.runSeconds, rehearsal := s.link.loopback } }
          ∧ (∀ n, n ≠ c.index → t.record? n = s.record? n)
          ∧ t.zoneAt r.zone
            = { s.zoneAt r.zone with
                uncovered :=
                  (s.zoneAt r.zone).uncovered + (if after.state = .ready then 0 else 1)
                    - (if r.state = .ready then 0 else 1) }
          ∧ (∀ z, z ≠ r.zone → t.zoneAt z = s.zoneAt z) ∧ t.classes = s.classes ∧ t.lookup = s.lookup
          ∧ (after.state = .faulty →
            t.causeAt .faultFound = { s.causeAt .faultFound with pending := true, carried := c.index })
          ∧ (after.state ≠ .faulty → t.causeAt .faultFound = s.causeAt .faultFound)
          ∧ (after.state = .silent →
            t.causeAt .silentFound = { s.causeAt .silentFound with pending := true, carried := c.index })
          ∧ (after.state ≠ .silent → t.causeAt .silentFound = s.causeAt .silentFound))
      ∧ (s.programme.state = .halting ∧ (∀ j, j < 32 → j ≠ k → (s.channelAt j).state = .free) →
        t.programme = { s.programme with state := .stopped }
          ∧ t.causeAt .programme = { s.causeAt .programme with pending := true, carried := 0 })
      ∧ (¬(s.programme.state = .halting ∧ ∀ j, j < 32 → j ≠ k → (s.channelAt j).state = .free) →
        t.programme = s.programme ∧ t.causeAt .programme = s.causeAt .programme)
      ∧ (∀ n, n ≠ .faultFound → n ≠ .silentFound → n ≠ .programme → t.causeAt n = s.causeAt n)
      ∧ t
        = { s with
            luminaires := t.luminaires
            zones := t.zones
            classes := t.classes
            lookup := t.lookup
            segments := t.segments
            channels := t.channels
            link := t.link
            programme := t.programme
            attention := { t.attention with changeMap := s.attention.changeMap } }

/-! ### The segment link (chapter 07) -/

/-- R130 and R154: CONFIGURE LINK. -/
def Obligations.ConfigureLink : Prop :=
  ∀ (sense threshold loopback : Byte) (s : State),
    let c := Instr.configureLink sense threshold loopback
    let cs : CheckSense := if sense = 0 then .odd else .even
    Ready c s →
    Examined
      [(1 < sense.toNat ∨ 3 < threshold.toNat ∨ 1 < loopback.toNat, .outOfRange),
        (s.programme.state ≠ .stopped, .wrongState)]
      (EndsWith c s)
      (exec c s
        = .next
          { s with
            link :=
              { configured := true
                sense := cs
                threshold := 8 * (threshold.toNat + 1)
                loopback := loopback == 1
                dispatch := []
                reports := []
                haltBox := if s.pendingHalt = 0 then none else some s.pendingHalt
                mainsBox := if loopback = 1 then some (boxWord cs 0xFFFF#16) else none
                stallCount := 0
                stallLatch := false
                stallDue := false }
            pendingHalt := 0
            port := (s.finish .done).port })

/-- R129 and R136: the concentrator's take of the head order; R144: the take of the link in loopback, with its answer.
R129, R139 and R143: the concentrator's writes. R129: what the concentrator is shown, in loopback too. That a loopback
take with loopback OFF or UNCONFIGURED has no effect is the model's reading (notes/assumptions/2.md), and so is that an
order's check bits are computed at the take (notes/assumptions/10.md: the sense cannot change while an order waits). -/
def Obligations.LinkPort : Prop :=
  (∀ s : State, s.calm = true →
     let taken (rest : List Order) : Link := { s.link with dispatch := rest, stallCount := 0, stallLatch := false }
     (s.link.configured = false ∨ s.link.loopback = true ∨ s.link.dispatch = [] → Idles .orderTake s)
       ∧ (∀ o rest, s.link.configured = true → s.link.loopback = false → s.link.dispatch = o :: rest →
         exec .orderTake s
           = .next
             { s with
               link := taken rest
               line := { s.line with order := some (orderWord s.link.sense o) } })
       ∧ (s.link.configured = false ∨ s.link.loopback = false ∨ s.link.dispatch = [] ∨ 64 ≤ s.link.reports.length →
         Idles .loopbackTake s)
       ∧ ∀ o rest, s.link.configured = true → s.link.loopback = true → s.link.dispatch = o :: rest →
         s.link.reports.length < 64 →
         Completes .loopbackTake s fun t =>
           (∃ w,
               t.link = { taken rest with reports := s.link.reports ++ [w] } ∧ queueWordPasses s.link.sense w = true
                 ∧ (o.channel < 32 → o.generation < 16 → o.address < 256 →
                   (reportOf w).channel = o.channel ∧ (reportOf w).generation = o.generation
                     ∧ (reportOf w).address = o.address ∧ (reportOf w).detail = 0
                     ∧ reportKindOf (reportOf w).kind
                       = some
                         (match o.kind with
                           | .startFunction => .started
                           | .startDuration => .started
                           | .stop => .stopped
                           | .abort => .aborted)))
             ∧ t = { s with link := t.link })
    ∧ (∀ s : State, s.calm = true →
         (∀ w,
             (s.link.configured = true ∧ s.link.loopback = false ∧ s.link.reports.length < 64 →
                 exec (.reportWrite w) s = .next { s with link := { s.link with reports := s.link.reports ++ [w] } })
               ∧ (¬(s.link.configured = true ∧ s.link.loopback = false ∧ s.link.reports.length < 64) →
                 Idles (.reportWrite w) s))
           ∧ ∀ w,
             (s.link.configured = true ∧ s.link.loopback = false ∧ s.link.mainsBox = none →
                 exec (.mainsWordWrite w) s = .next { s with link := { s.link with mainsBox := some w } })
               ∧ (¬(s.link.configured = true ∧ s.link.loopback = false ∧ s.link.mainsBox = none) →
                 Idles (.mainsWordWrite w) s))
    ∧ (∀ s : State,
         (s.link.configured = false →
             s.shownOrder = none ∧ s.shownReportsFull = true ∧ s.shownHalt = none ∧ s.shownMainsFull = true)
           ∧ (s.link.configured = true →
             (s.link.dispatch = [] → s.shownOrder = none)
               ∧ (∀ o rest, s.link.dispatch = o :: rest → s.shownOrder = some (orderWord s.link.sense o))
               ∧ (s.shownReportsFull = true ↔ 64 ≤ s.link.reports.length)
               ∧ s.shownHalt = s.link.haltBox.map (boxWord s.link.sense)
               ∧ (s.shownMainsFull = true ↔ s.link.mainsBox ≠ none)))

/-- R131 to R134 and 10.4: the bit places of an order, a report and a map in their words, both ways; under ODD a byte and
its check bit hold an odd number of ones, under EVEN an even number; a word the part writes passes its check, and a byte
with any one of its nine bits changed fails it. -/
def Obligations.LinkWords : Prop :=
  (∀ sense : CheckSense,
     (∀ p : Report, p.kind < 8 → p.channel < 32 → p.generation < 16 → p.detail < 16 → p.address < 256 →
         let w := reportWord sense p
         reportOf w = p ∧ queueWordPasses sense w = true ∧ w.b0.data.toNat = p.kind * 32 + p.channel
           ∧ w.b1.data.toNat = p.generation * 16 + p.detail ∧ w.b2.data.toNat = p.address)
       ∧ (∀ o : Order, o.channel < 32 → o.generation < 16 → o.segment < 16 → o.address < 256 →
         let w := orderWord sense o
         queueWordPasses sense w = true
           ∧ (o.kind, w.b0.data.toNat / 64) ∈ [(.startFunction, 0), (.startDuration, 1), (.stop, 2), (.abort, 3)]
           ∧ w.b0.data.toNat / 2 % 32 = o.channel ∧ w.b0.data.toNat % 2 = 0 ∧ w.b1.data.toNat / 16 = o.generation
           ∧ w.b1.data.toNat % 16 = o.segment ∧ w.b2.data.toNat = o.address)
       ∧ (∀ m : SegMap,
         let w := boxWord sense m
         mapOf w = m ∧ boxWordPasses sense w = true
           ∧ ∀ n, n < 8 → w.b0.data.getLsbD n = m.getLsbD n ∧ w.b1.data.getLsbD n = m.getLsbD (8 + n))
       ∧ ∀ b : LinkByte,
         let ones := ((List.range 8).filter fun n => b.data.getLsbD n).length + (if b.check = true then 1 else 0)
         (bytePasses sense b = true ↔ ones % 2 = (match sense with | .odd => 1 | .even => 0))
           ∧ (bytePasses sense b = true →
             bytePasses sense { b with check := !b.check } = false
               ∧ ∀ n, n < 8 → bytePasses sense { b with data := b.data ^^^ BitVec.ofNat 8 (2 ^ n) } = false))
    ∧ (∀ w : QueueWord,
         reportOf w
           = { kind := w.b0.data.toNat / 32, channel := w.b0.data.toNat % 32, generation := w.b1.data.toNat / 16
               detail := w.b1.data.toNat % 16, address := w.b2.data.toNat })
    ∧ (∀ n kind, reportKindOf n = some kind
        ↔ (n, kind)
          ∈ [(0, .started), (1, .refused), (2, .cutoff), (3, .lampFault), (4, .stopped), (5, .aborted)])
    ∧ ∀ (w : BoxWord) (n : Nat), n < 8 →
      (mapOf w).getLsbD n = w.b0.data.getLsbD n ∧ (mapOf w).getLsbD (8 + n) = w.b1.data.getLsbD n

/-! ### Mains and halts (chapter 08) -/

/-- R143, R147 to R150: the mains word take. A word that passes its check is applied to the segments one after another
(the order among them, and among the channels of a segment, is the model's choice: notes/assumptions/22.md): a segment
that stays as reported is left alone; one that becomes PRESENT from UNKNOWN changes its mains fields alone, one from
ABSENT is restored (Obligations.Restore); one that becomes ABSENT closes every channel bound on it VOID
(Obligations.Close). For a lawful state the whole effect is said: mains fields, change map and notice, channels, queued
orders, records, and the end of a halt. That a take of the FREE mailbox has no effect is the model's reading
(notes/assumptions/2.md), and so is that a closed channel keeps its other fields, its timer target included
(notes/assumptions/21.md). -/
def Obligations.MainsWordTake : Prop :=
  (∀ s : State, s.calm = true →
     (s.link.mainsBox = none → Idles .mainsWordTake s)
       ∧ ∀ w, s.link.mainsBox = some w →
         let u := { s with link := { s.link with mainsBox := none } }
         let reported (g : Nat) : Prop := (mapOf w).getLsbD g = true
         let lost (g : Nat) : Prop := g < 16 ∧ ¬reported g ∧ (s.segmentAt g).mains ≠ .absent
         let gained (g : Nat) : Prop := g < 16 ∧ reported g ∧ (s.segmentAt g).mains ≠ .present
         let closed (k : Nat) (r : Record) : Prop :=
           s.bound k = true ∧ s.record? (s.channelAt k).index = some r ∧ lost r.segment
         let ended : Prop := s.programme.state = .halting ∧ ∀ k, s.bound k = true → ∃ r, closed k r
         (boxWordPasses s.link.sense w = false → exec .mainsWordTake s = .next (u.raise .linkCheck 0))
           ∧ (boxWordPasses s.link.sense w = true → exec .mainsWordTake s = .next (u.applyMains (mapOf w)))
           ∧ (boxWordPasses s.link.sense w = true → s.Lawful →
             Completes .mainsWordTake s fun t =>
               (∀ g,
                   (lost g → (t.segmentAt g).mains = .absent ∧ (t.segmentAt g).outageStart = some s.now
                       ∧ (t.segmentAt g).active = 0)
                     ∧ (gained g → (t.segmentAt g).mains = .present ∧ (t.segmentAt g).outageStart = none)
                     ∧ (¬lost g → ¬gained g → (t.segmentAt g).mains = (s.segmentAt g).mains
                       ∧ (t.segmentAt g).outageStart = (s.segmentAt g).outageStart)
                     ∧ (¬lost g → (t.segmentAt g).active = (s.segmentAt g).active)
                     ∧ (t.segmentAt g).enabled = (s.segmentAt g).enabled ∧ (t.segmentAt g).cap = (s.segmentAt g).cap
                     ∧ (t.attention.changeMap.getLsbD g = true
                       ↔ s.attention.changeMap.getLsbD g = true ∨ lost g ∨ gained g))
                 ∧ ((t.causeAt .mainsChange).pending = true
                   ↔ (s.causeAt .mainsChange).pending = true ∨ ∃ g, lost g ∨ gained g)
                 ∧ (∀ k r, closed k r → t.channelAt k = { s.channelAt k with state := .free, role := .none })
                 ∧ (∀ k, (∀ r, ¬closed k r) → t.channelAt k = s.channelAt k)
                 ∧ (∀ o, o ∈ t.link.dispatch ↔ o ∈ s.link.dispatch ∧ ∀ r, ¬closed o.channel r)
                 ∧ t.link.dispatch.Sublist s.link.dispatch
                 ∧ (∀ k r, closed k r → r.retirePending = true → t.record? (s.channelAt k).index = none)
                 ∧ (∀ k r, closed k r → r.retirePending = false →
                   t.record? (s.channelAt k).index
                     = some { s.voided (s.channelAt k) r with neighbours := t.enrolledAmong r.neighbours })
                 ∧ (∀ i r, s.record? i = some r → (∀ k, closed k r → (s.channelAt k).index ≠ i) →
                   let held : Nat :=
                     laterHold r.hold
                       (min
                         (s.now
                           + rechargeHold (s.figures r.cls)
                             (dischargedAtRestore ((s.segmentAt r.segment).outageStart.getD 0) s.now
                               (s.figures r.cls).ratedDuration))
                         4294967295)
                   let restored : Prop :=
                     gained r.segment ∧ (s.segmentAt r.segment).mains = .absent
                       ∧ (r.state = .ready ∨ r.state = .recharging)
                   (restored →
                       t.record? i
                         = some
                           { r with
                             state := .recharging, hold := some held, neighbours := t.enrolledAmong r.neighbours })
                     ∧ (¬restored → t.record? i = some { r with neighbours := t.enrolledAmong r.neighbours }))
                 ∧ (∀ i, s.record? i = none → t.record? i = none)
                 ∧ (ended →
                   t.programme = { s.programme with state := .stopped }
                     ∧ t.causeAt .programme = { s.causeAt .programme with pending := true, carried := 0 })
                 ∧ (¬ended → t.programme = s.programme ∧ t.causeAt .programme = s.causeAt .programme)
                 ∧ (∀ c, c ≠ .mainsChange → c ≠ .programme → t.causeAt c = s.causeAt c)
                 ∧ t.link
                   = { s.link with
                       dispatch := t.link.dispatch, stallCount := t.link.stallCount, mainsBox := none }
                 ∧ t
                   = { s with
                       luminaires := t.luminaires
                       zones := t.zones
                       classes := t.classes
                       lookup := t.lookup
                       segments := t.segments
                       channels := t.channels
                       link := t.link
                       programme := t.programme
                       attention := t.attention }))
    ∧ ∀ (s : State) (m : SegMap),
      s.applyMains m = (List.range 16).foldl (fun t g => t.mainsAt m g) s
        ∧ ∀ g,
          let reported : Prop := m.getLsbD g = true
          let moved (mains : Mains) (start : Option Nat) : State :=
            (s.setSegment g { s.segmentAt g with mains := mains, outageStart := start }).raiseMainsChange g
          ((s.segmentAt g).mains = .present → reported → s.mainsAt m g = s)
            ∧ ((s.segmentAt g).mains = .absent → ¬reported → s.mainsAt m g = s)
            ∧ ((s.segmentAt g).mains = .unknown → reported → s.mainsAt m g = moved .present none)
            ∧ ((s.segmentAt g).mains = .absent → reported → s.mainsAt m g = s.restore g)
            ∧ ((s.segmentAt g).mains ≠ .absent → ¬reported →
              s.mainsAt m g
                = (List.range 32).foldl
                  (fun t k =>
                    if t.bound k = true ∧ t.onSegment k g = true then
                      t.close k .void (some (if (t.channelAt k).started = true then .afterStart else .beforeStart))
                    else t)
                  (moved .absent (some s.now)))

/-- R59 to R62, R79 and R149: the outage holds of a restore, one record at a time: what Obligations.MainsWordTake says of
a segment that goes from ABSENT to PRESENT. -/
def Obligations.Restore : Prop :=
  ∀ (s : State) (g : Nat), s.Canonical →
    let start := (s.segmentAt g).outageStart.getD 0
    let t := s.restore g
    let hold (r : Record) : Nat :=
      laterHold r.hold
        (min
          (s.now
            + rechargeHold (s.figures r.cls) (dischargedAtRestore start s.now (s.figures r.cls).ratedDuration))
          4294967295)
    (∀ i r, s.record? i = some r → r.segment = g → r.state = .ready ∨ r.state = .recharging →
        t.record? i = some { r with state := .recharging, hold := some (hold r) })
      ∧ (∀ i r, s.record? i = some r → ¬(r.segment = g ∧ (r.state = .ready ∨ r.state = .recharging)) →
        t.record? i = some r)
      ∧ (∀ i, s.record? i = none → t.record? i = none)
      ∧ (∀ z,
        t.zoneAt z
          = { s.zoneAt z with
              uncovered :=
                (s.zoneAt z).uncovered
                  + s.countRecords fun r => r.zone == z && r.segment == g && r.state == .ready })
      ∧ t.segmentAt g = { s.segmentAt g with mains := .present, outageStart := none }
      ∧ (∀ h, h ≠ g → t.segmentAt h = s.segmentAt h)
      ∧ t
        = { s with
            luminaires := t.luminaires, zones := t.zones, segments := t.segments, attention := t.attention }

/-- R123, R152, R153 and R154: HALT SEGMENTS. -/
def Obligations.HaltSegments : Prop :=
  ∀ (m : SegMap) (s : State),
    let c := Instr.haltSegments m
    let caught (k : Nat) : Prop :=
      k < 32
        ∧ ((s.channelAt k).state = .ordered ∨ (s.channelAt k).state = .running ∨ (s.channelAt k).state = .stopping)
        ∧ ∃ r, s.record? (s.channelAt k).index = some r ∧ m.getLsbD r.segment = true
    Ready c s →
    Examined [(m = 0, .noEffect)] (EndsWith c s)
      (Completes c s fun t =>
        (∀ k, caught k →
            t.channelAt k
              = { s.channelAt k with state := .aborting, path := .halt, role := .answer, target := s.answerTime })
          ∧ (∀ k, ¬caught k → t.channelAt k = s.channelAt k)
          ∧ (s.link.haltBox = none →
            t
              = { s with
                  channels := t.channels
                  link := { s.link with haltBox := some (s.pendingHalt ||| m) }
                  pendingHalt := 0
                  port := (s.finish .done).port })
          ∧ (s.link.haltBox ≠ none →
            t
              = { s with
                  channels := t.channels
                  pendingHalt := s.pendingHalt ||| m
                  port := (s.finish .done).port }))

/-- R129, R142, R154 and R155: the halt take, of the concentrator or of the link in loopback (the model's reading of one row
for both: notes/assumptions/15.md). The channels it takes close VOID (Obligations.Close), one after another (in
ascending order, the model's choice: notes/assumptions/22.md), and then the next halt word is written. For a lawful
state the whole effect is said. That a take with the mailbox FREE has no effect is what R142 says of a take; that a taken
channel keeps its other fields, its timer target included, is the model's reading (notes/assumptions/21.md). -/
def Obligations.HaltTake : Prop :=
  ∀ s : State, s.calm = true →
    (s.link.haltBox = none ∨ s.link.configured = false → Idles .haltTake s)
      ∧ ∀ m, s.link.haltBox = some m → s.link.configured = true →
        let u : State :=
          { s with
            link := { s.link with haltBox := none }
            line :=
              { s.line with
                halt := if s.link.loopback = true then s.line.halt else some (boxWord s.link.sense m) } }
        let taken (k : Nat) (r : Record) : Prop :=
          (s.channelAt k).state = .aborting ∧ (s.channelAt k).path = .halt
            ∧ s.record? (s.channelAt k).index = some r ∧ m.getLsbD r.segment = true
        let ended : Prop :=
          s.programme.state = .halting ∧ (∃ k r, taken k r) ∧ ∀ k, s.bound k = true → ∃ r, taken k r
        exec .haltTake s
            = .next
              ((List.range 32).foldl
                (fun t k =>
                  if (t.channelAt k).state = .aborting ∧ (t.channelAt k).path = .halt ∧ t.onMap k m = true then
                    t.close k .void (some (if (t.channelAt k).started = true then .afterStart else .beforeStart))
                  else t)
                u).writeHaltWord
          ∧ (s.Lawful →
            Completes .haltTake s fun t =>
              (∀ k r, taken k r → t.channelAt k = { s.channelAt k with state := .free, role := .none })
                ∧ (∀ k, (∀ r, ¬taken k r) → t.channelAt k = s.channelAt k)
                ∧ (∀ g, (∀ k r, taken k r → r.segment ≠ g) → t.segmentAt g = s.segmentAt g)
                ∧ (∀ g, t.segmentAt g = { s.segmentAt g with active := (t.segmentAt g).active })
                ∧ (∀ o, o ∈ t.link.dispatch ↔ o ∈ s.link.dispatch ∧ ∀ r, ¬taken o.channel r)
                ∧ t.link.dispatch.Sublist s.link.dispatch
                ∧ (∀ k r, taken k r → r.retirePending = true → t.record? (s.channelAt k).index = none)
                ∧ (∀ k r, taken k r → r.retirePending = false →
                  t.record? (s.channelAt k).index
                    = some { s.voided (s.channelAt k) r with neighbours := t.enrolledAmong r.neighbours })
                ∧ (∀ i r, s.record? i = some r → (∀ k, taken k r → (s.channelAt k).index ≠ i) →
                  t.record? i = some { r with neighbours := t.enrolledAmong r.neighbours })
                ∧ (∀ i, s.record? i = none → t.record? i = none)
                ∧ (ended →
                  t.programme = { s.programme with state := .stopped }
                    ∧ t.causeAt .programme = { s.causeAt .programme with pending := true, carried := 0 })
                ∧ (¬ended → t.programme = s.programme ∧ t.causeAt .programme = s.causeAt .programme)
                ∧ (∀ c, c ≠ .programme → t.causeAt c = s.causeAt c)
                ∧ t.link
                  = { s.link with
                      dispatch := t.link.dispatch
                      stallCount := t.link.stallCount
                      haltBox := if s.pendingHalt = 0 then none else some s.pendingHalt }
                ∧ t
                  = { s with
                      luminaires := t.luminaires
                      zones := t.zones
                      classes := t.classes
                      lookup := t.lookup
                      segments := t.segments
                      channels := t.channels
                      link := t.link
                      pendingHalt := 0
                      programme := t.programme
                      attention := { t.attention with changeMap := s.attention.changeMap }
                      line := u.line })

/-! ### Programme control (chapter 09) -/

/-- R159, R160 and R161: START, SUSPEND and RESUME. -/
def Obligations.StartSuspendResume : Prop :=
  ∀ s : State,
    (Ready .start s →
        Examined
          [(s.programme.state ≠ .stopped, .wrongState), (s.clock.isSet = false, .clockUnset),
            (s.link.configured = false, .linkUnconfigured)]
          (EndsWith .start s)
          (exec .start s
            = .next ({ s with programme := { s.programme with state := .running } }.finish .done)))
      ∧ (∀ (flag : Byte) (minute : Word),
        let c := Instr.suspend flag minute
        Ready c s →
        Examined [(s.programme.state ≠ .running, .noEffect)] (EndsWith c s)
          (exec c s
            = .next
              ({ s with
                programme :=
                  { state := .suspended
                    resumeMinute := if flag = 0 then none else some minute.toNat } }.finish .done)))
      ∧ (Ready .resume s →
        Examined [(s.programme.state ≠ .suspended, .noEffect)] (EndsWith .resume s)
          (exec .resume s
            = .next ({ s with programme := { state := .running, resumeMinute := none } }.finish .done)))

/-- R163: HALT. -/
def Obligations.Halt : Prop :=
  ∀ s : State,
    let active (g : Nat) : Prop := g < 16 ∧ 0 < (s.segmentAt g).active
    let caught (k : Nat) : Prop :=
      k < 32
        ∧ ((s.channelAt k).state = .ordered ∨ (s.channelAt k).state = .running ∨ (s.channelAt k).state = .stopping)
        ∧ ∃ r, s.record? (s.channelAt k).index = some r ∧ active r.segment
    Ready .halt s →
    Examined [(s.programme.state = .stopped ∨ s.programme.state = .halting, .noEffect)] (EndsWith .halt s)
      (((∀ k, k < 32 → (s.channelAt k).state = .free) →
          exec .halt s
            = .next ({ s with programme := { state := .stopped, resumeMinute := none } }.finish .done))
        ∧ ((∃ k, k < 32 ∧ (s.channelAt k).state ≠ .free) →
          Completes .halt s fun t =>
            t.programme = { state := .halting, resumeMinute := none }
              ∧ (∀ k, caught k →
                t.channelAt k
                  = { s.channelAt k with
                      state := .aborting, path := .halt, role := .answer, target := s.answerTime })
              ∧ (∀ k, ¬caught k → t.channelAt k = s.channelAt k)
              ∧ (∃ m : SegMap,
                (∀ g, m.getLsbD g = true ↔ s.pendingHalt.getLsbD g = true ∨ active g)
                  ∧ (s.link.haltBox = none → m ≠ 0 →
                    t.link = { s.link with haltBox := some m } ∧ t.pendingHalt = 0)
                  ∧ (s.link.haltBox ≠ none ∨ m = 0 → t.link = s.link ∧ t.pendingHalt = m))
              ∧ t
                = { s with
                    programme := t.programme
                    channels := t.channels
                    link := t.link
                    pendingHalt := t.pendingHalt
                    port := (s.finish .done).port }))

/-! ### The host port (chapter 10) -/

/-- R171 and R182: SET TURNAROUND, with the bytes the host then clocks before a read is taken (R170), and SET ATTENTION
LEVELS. -/
def Obligations.PortSettings : Prop :=
  (∀ (bytes : Byte) (s : State),
      let n := bytes.toNat
      let v := if n = 0 then 1 else if n = 1 then 1 else if n = 2 then 2 else 4
      Ready (.setTurnaround bytes) s →
      Completes (.setTurnaround bytes) s fun t =>
        t = { s with port := { s.port with turnaround := v } }.finish (if n = v then .done else .doneClamped)
          ∧ ∀ count, t.bytesBeforeTake count = 1 + count + v)
    ∧ ∀ (levels : List Byte) (s : State), levels.length = 8 → Ready (.setAttentionLevels levels) s →
      Completes (.setAttentionLevels levels) s fun t =>
        (∀ (n : Cause) (b : Byte), levels[n.number - 1]? = some b →
            t.causeAt n = { s.causeAt n with level := if 7 < b.toNat then 7 else b.toNat })
          ∧ t
            = { s with
                attention := { t.attention with changeMap := s.attention.changeMap }
                port := (s.finish (if ∃ b ∈ levels, 7 < b.toNat then .doneClamped else .done)).port }

/-- R166, R167 and 10.5: the rise of select that ends a transaction, and which codes are actions and reads, with their
argument counts. Its one effect beside the accept is that a READ STATUS is no longer in progress (`statusRead`, the
model's own field, notes/assumptions/14.md). That the accept of a read has no other effect is the model's reading: the
read was taken as a row of its own, and the rise of select that ends a walk (R173) is the row WALK_END of
Obligations.Walks (notes/assumptions/19.md); that the end of an abandoned transaction is told by the command is its
reading too (notes/assumptions/25.md). -/
def Obligations.Accept : Prop :=
  (∀ (s : State) (e : TransactionEnd), s.calm = true →
     let left : State := { s with port := { s.port with statusRead := false } }
     let dropped : State := { s with port := { s.port with dropped := true, statusRead := false } }
     let malformed : State := { s with port := { s.port with lastResult := .malformed, statusRead := false } }
     exec (.accept [] e) s = .next left
       ∧ ∀ (code : Byte) (args : List Byte),
         let c := Instr.accept (code :: args) e
         (e = .abandoned → exec c s = .next left)
           ∧ (∀ n, codeClass code = .read n → exec c s = .next left)
           ∧ (e ≠ .abandoned → codeClass code = .undefined →
             exec c s = .next (if s.busy then dropped else malformed))
           ∧ ∀ n, e ≠ .abandoned → codeClass code = .action n → code ≠ 0x2F →
             (s.busy = true → exec c s = .next dropped)
               ∧ (s.busy = false → args.length ≠ n ∨ e = .midByte → exec c s = .next malformed)
               ∧ (s.busy = false → args.length = n → e = .whole →
                 ∃ a, decodeAction code args = some a
                   ∧ exec c s = .next { s with port := { s.port with inHand := some a, statusRead := false } }))
    ∧ (∀ (code : Byte) (n : Nat),
         codeClass code = .action n
           ↔ (code.toNat, n)
             ∈ [(0x01, 19), (0x02, 20), (0x03, 2), (0x04, 16), (0x05, 1), (0x06, 3), (0x07, 2), (0x08, 1), (0x09, 3),
               (0x0A, 3), (0x0B, 2), (0x0C, 2), (0x0D, 2), (0x0E, 2), (0x10, 4), (0x11, 1), (0x12, 43), (0x13, 11),
               (0x14, 11), (0x18, 3), (0x19, 0), (0x1C, 2), (0x1D, 3), (0x1E, 2), (0x20, 0), (0x21, 5), (0x22, 0),
               (0x23, 0), (0x28, 1), (0x29, 8), (0x2F, 0)])
    ∧ ∀ (code : Byte) (n : Nat),
      codeClass code = .read n
        ↔ (code.toNat, n)
          ∈ [(0x80, 0), (0x81, 0), (0x82, 0), (0x84, 2), (0x85, 3), (0x86, 3), (0x87, 2), (0x88, 1), (0x89, 1),
            (0x8A, 1), (0x8B, 1), (0x8C, 0), (0x8D, 0), (0x8E, 0)]

/-- 10.5, R166, R168: the bytes of an action spell it and no other action, and their accept puts it in hand. The command
table, code by code: which argument bytes give which field, values wider than one byte most significant byte first. -/
def Obligations.ActionRoundTrip : Prop :=
  (∀ i : Instr, i.isAction = true → i.wellFormed = true →
      ∃ code args, encodeAction i = some (code :: args) ∧ codeClass code = .action args.length
        ∧ decodeAction code args = some i
        ∧ ∀ s : State, s.calm = true → s.busy = false → i ≠ .resetPart →
          Completes (.accept (code :: args) .whole) s fun t =>
            t = { s with port := { s.port with inHand := some i, statusRead := false } } ∧ Ready i t)
    ∧ (∀ (code : Byte) (args : List Byte) (i : Instr), decodeAction code args = some i →
         i.isAction = true ∧ i.wellFormed = true ∧ encodeAction i = some (code :: args))
    ∧ (let half (a b : Byte) : Half := BitVec.ofNat 16 (a.toNat * 256 + b.toNat)
       let word (a b c d : Byte) : Word :=
         BitVec.ofNat 32 (((a.toNat * 256 + b.toNat) * 256 + c.toNat) * 256 + d.toNat)
       (∀ a b c d e f g h i j k l m n o p q r t : Byte,
           let places := [half h i, half j k, half l m, half n o, half p q, half r t]
           decodeAction 0x01 [a, b, c, d, e, f, g, h, i, j, k, l, m, n, o, p, q, r, t]
               = some (.enrol (half a b) c d e f g places)
             ∧ ∀ x, decodeAction 0x02 [a, b, x, c, d, e, f, g, h, i, j, k, l, m, n, o, p, q, r, t]
               = some (.amend (half a b) x c d e f g places))
         ∧ (∀ a b c d e f g h i j k l m n o p : Byte,
           decodeAction 0x04 [a, b, c, d, e, f, g, h, i, j, k, l, m, n, o, p]
             = some
               (.writeClass a (half b c) (half d e) (half f g) (half h i) j k l (half m n) (half o p)))
         ∧ (∀ a b c d e f g h i j k : Byte,
           decodeAction 0x13 [a, b, c, d, e, f, g, h, i, j, k]
               = some (.addException (word a b c d) (word e f g h) i j k)
             ∧ decodeAction 0x14 [a, b, c, d, e, f, g, h, i, j, k]
               = some (.dropException (word a b c d) (word e f g h) i j k))
         ∧ (∀ a b c d e : Byte,
           decodeAction 0x03 [a, b] = some (.retire (half a b)) ∧ decodeAction 0x05 [a] = some (.clearClass a)
             ∧ decodeAction 0x06 [a, b, c] = some (.writeZone a b c) ∧ decodeAction 0x07 [a, b] = some (.setZoneHold a b)
             ∧ decodeAction 0x08 [a] = some (.clearZone a) ∧ decodeAction 0x09 [a, b, c] = some (.writeSegment a b c)
             ∧ decodeAction 0x0A [a, b, c] = some (.requestTest (half a b) c)
             ∧ decodeAction 0x0B [a, b] = some (.cancelRequest (half a b))
             ∧ decodeAction 0x0C [a, b] = some (.acceptRepair (half a b))
             ∧ decodeAction 0x0D [a, b] = some (.revive (half a b))
             ∧ decodeAction 0x0E [a, b] = some (.abortTest (half a b))
             ∧ decodeAction 0x10 [a, b, c, d] = some (.setClock (word a b c d))
             ∧ decodeAction 0x11 [a] = some (.trimClock a) ∧ decodeAction 0x18 [a, b, c] = some (.setSweep a b c)
             ∧ decodeAction 0x19 [] = some .startSweep ∧ decodeAction 0x1C [a, b] = some (.setTiming (half a b))
             ∧ decodeAction 0x1D [a, b, c] = some (.configureLink a b c) ∧ decodeAction 0x20 [] = some .start
             ∧ decodeAction 0x21 [a, b, c, d, e] = some (.suspend a (word b c d e))
             ∧ decodeAction 0x22 [] = some .resume ∧ decodeAction 0x23 [] = some .halt
             ∧ decodeAction 0x28 [a] = some (.setTurnaround a) ∧ decodeAction 0x2F [] = some .resetPart)
         ∧ (∀ (p : Byte) (l : List Byte), l.length = 42 →
           ∃ v, decodeAction 0x12 (p :: l) = some (.writeProfile p v)
             ∧ ∀ n b, n < 336 → l[n / 8]? = some b → slotOpen v n = b.getLsbD (7 - n % 8))
         ∧ (∀ a b : Byte,
           ∃ m, decodeAction 0x1E [a, b] = some (.haltSegments m)
             ∧ ∀ n, n < 8 → m.getLsbD n = a.getLsbD n ∧ m.getLsbD (8 + n) = b.getLsbD n)
         ∧ ∀ l : List Byte, l.length = 8 → decodeAction 0x29 l = some (.setAttentionLevels l))

/-- R170, R172, 10.4 and the result codes of 00_scope.md: READ STATUS and the repetitions of its bytes. A repetition is
sampled while the READ STATUS is in progress and has no effect otherwise; which transaction is in progress is the
model's own field `statusRead` (notes/assumptions/14.md). -/
def Obligations.StatusReads : Prop :=
  ∀ s : State, s.calm = true → s.link.reports.length ≤ 64 →
    ∃ b0 b1 b2 b3 : Byte,
      exec .readStatus s
          = .next
            { s with port := { s.port with output := [b0, b1, b2, b3], dropped := false, statusRead := true } }
        ∧ (s.port.statusRead = true →
          exec .statusRepetition s = .next { s with port := { s.port with output := [b0, b1, b2, b3] } })
        ∧ (s.port.statusRead = false → Idles .statusRepetition s)
        ∧ (b0.getLsbD 7 = true ↔ s.busy = true) ∧ (b0.getLsbD 6 = true ↔ s.port.dropped = true)
        ∧ (b0.getLsbD 5 = true ↔ ∃ c, (s.causeAt c).pending = true) ∧ (b0.getLsbD 4 = true ↔ s.clock.isSet = true)
        ∧ (s.programme.state, b0.toNat / 4 % 4) ∈ [(.stopped, 0), (.running, 1), (.suspended, 2), (.halting, 3)]
        ∧ (b0.getLsbD 1 = true ↔ s.planner.phase = .visiting ∨ s.planner.phase = .dispatching)
        ∧ b0.getLsbD 0 = false
        ∧ (s.port.lastResult, b1.toNat)
          ∈ [(.done, 0x00), (.doneClamped, 0x01), (.deferred, 0x02), (.noEffect, 0x03), (.inProgress, 0x04),
            (.malformed, 0x10), (.outOfRange, 0x11), (.notEnrolled, 0x12), (.slotInUse, 0x13), (.addressTaken, 0x14),
            (.neighbourInvalid, 0x15), (.neighbourFull, 0x16), (.neighbourBusy, 0x17), (.classUndefined, 0x18),
            (.zoneUndefined, 0x19), (.inUse, 0x1A), (.inTest, 0x1B), (.wrongState, 0x1C), (.clockUnset, 0x1D),
            (.listFull, 0x1E), (.duplicate, 0x1F), (.notFound, 0x20), (.linkUnconfigured, 0x21)]
        ∧ b2.toNat = s.link.reports.length ∧ b3.toNat = s.boundCount

/-- R178, R179, R180 and R181: READ ATTENTION returns the pending cause of the highest level, the lowest number among
equals, and clears it if it is a notice. R181: the attention line and the attention pending bit. R166, R170 and R171: the
part sends all-ones bytes while the host clocks the code, the arguments and the turnaround, then the sampled bytes, and
past them all-ones bytes again. -/
def Obligations.AttentionReads : Prop :=
  (∀ s : State, s.calm = true →
     ((∀ c, (s.causeAt c).pending = false) → Returns .readAttention s [0, 0, 0])
       ∧ ∀ c : Cause, (s.causeAt c).pending = true → (s.causeAt c).carried ≤ 65535 →
         (∀ d, (s.causeAt d).pending = true →
           (s.causeAt d).level < (s.causeAt c).level
             ∨ ((s.causeAt d).level = (s.causeAt c).level ∧ c.number ≤ d.number)) →
         Completes .readAttention s fun t =>
           (∃ number hi lo : Byte,
               t.port = { s.port with output := [number, hi, lo], statusRead := false }
               ∧ (c, number.toNat)
                 ∈ [(.faultFound, 1), (.silentFound, 2), (.mainsChange, 3), (.overdue, 4), (.linkCheck, 5),
                   (.linkStall, 6), (.programme, 7), (.staleReport, 8)]
               ∧ hi.toNat * 256 + lo.toNat = (s.causeAt c).carried)
             ∧ (c = .overdue → t = { s with port := t.port })
             ∧ (c ≠ .overdue → t.causeAt c = { s.causeAt c with pending := false, carried := 0 })
             ∧ (∀ d, d ≠ c → t.causeAt d = s.causeAt d)
             ∧ t.attention.changeMap = (if c = .mainsChange then 0 else s.attention.changeMap)
             ∧ t = { s with port := t.port, attention := t.attention })
    ∧ (∀ s : State,
         (s.attentionLine = true ↔ ∃ c, (s.causeAt c).pending = true ∧ 1 ≤ (s.causeAt c).level)
           ∧ (s.attentionPending = true ↔ ∃ c, (s.causeAt c).pending = true)
           ∧ (∀ n, s.port.output.length ≤ n → s.dataByte n = 0xFF) ∧ (∀ n b, s.port.output[n]? = some b → s.dataByte n = b)
           ∧ ∀ count before,
             before = s.bytesBeforeTake count →
             before = 1 + count + s.port.turnaround
               ∧ ∀ t : State, (∀ n, n < before → t.sentByte before n = 0xFF)
                 ∧ ∀ n, t.sentByte before (before + n) = t.dataByte n)

/-- R170: while BUSY every read but READ STATUS and READ ATTENTION is refused silently. R16, R32, R175 and 10.4: READ
CLOCK, FIND ADDRESS, READ CLASS, READ ZONE and READ SEGMENT. A field is the number its bytes spell, most significant
byte first. -/
def Obligations.TableReads : Prop :=
  (∀ (s : State) (a b : Byte) (h : Half), s.calm = true → s.busy = true →
     Returns .readClock s [] ∧ Returns (.readRecord h) s [] ∧ Returns (.walkZone a h) s []
       ∧ Returns (.walkState a h) s [] ∧ Returns (.findAddress a b) s [] ∧ Returns (.readClass a) s []
       ∧ Returns (.readZone a) s [] ∧ Returns (.readSegment a) s [] ∧ Returns (.readProfile a) s []
       ∧ Returns .readExceptions s [] ∧ Returns .readChannels s [] ∧ Returns .readCandidates s [])
    ∧ (∀ s : State, s.calm = true → s.busy = false → s.RangeLaw →
         let field (l : List Byte) (at_ size : Nat) : Nat := bytesValue ((l.drop at_).take size)
         let flag (p : Bool) : Nat := if p = true then 1 else 0
         (s.clock.isSet = false → Returns .readClock s [0, 0, 0, 0, 0, 0])
           ∧ (s.clock.isSet = true →
             ∃ l, Returns .readClock s l ∧ l.length = 6 ∧ field l 0 4 = s.clock.value ∧ field l 4 1 = 1
               ∧ field l 5 1 = s.clock.seconds)
           ∧ (∀ g a : Byte,
             ∃ l, Returns (.findAddress g a) s l ∧ l.length = 2
               ∧ (15 < g.toNat ∨ s.locate g.toNat a.toNat = none → field l 0 2 = 65535)
               ∧ ∀ i, g.toNat ≤ 15 → s.locate g.toNat a.toNat = some i → i < 4096 → field l 0 2 = i)
           ∧ (∀ k : Byte,
             (15 < k.toNat ∨ (s.classAt k.toNat).figures = none → Returns (.readClass k) s (List.replicate 16 0))
               ∧ ∀ f, k.toNat ≤ 15 → (s.classAt k.toNat).figures = some f →
                 ∃ l, Returns (.readClass k) s l ∧ l.length = 16 ∧ field l 0 1 = 1 ∧ field l 1 2 = f.functionLength
                   ∧ field l 3 2 = f.ratedDuration ∧ field l 5 2 = f.functionInterval ∧ field l 7 2 = f.durationInterval
                   ∧ field l 9 1 = f.earlyWindow ∧ field l 10 1 = f.grace ∧ field l 11 1 = f.rechargeFactor
                   ∧ field l 12 2 = f.rechargeMin ∧ field l 14 2 = f.rechargeMax)
           ∧ (∀ z : Byte,
             let e := s.zoneAt z.toNat
             ∃ l, Returns (.readZone z) s l ∧ l.length = 8 ∧ field l 0 1 = flag e.isDefined ∧ field l 1 1 = e.profile
               ∧ field l 2 1 = e.percent ∧ field l 3 1 = flag e.held ∧ field l 4 2 = e.population
               ∧ field l 6 2 = e.uncovered)
           ∧ ∀ g : Byte,
             let e := s.segmentAt g.toNat
             (15 < g.toNat → Returns (.readSegment g) s (List.replicate 10 0xFF))
               ∧ (g.toNat ≤ 15 →
                 ∃ l, Returns (.readSegment g) s l ∧ l.length = 10 ∧ field l 0 1 = flag e.enabled ∧ field l 1 1 = e.cap
                   ∧ field l 2 1 = e.active
                   ∧ (e.mains, field l 3 1) ∈ [(.unknown, 0), (.present, 1), (.absent, 2)]
                   ∧ field l 4 1 = flag e.outageStart.isSome ∧ field l 5 4 = e.outageStart.getD 0
                   ∧ field l 9 1 = flag (s.pendingHalt.getLsbD g.toNat)))

/-- R41, R99, R109 and 10.4: READ PROFILE, READ EXCEPTIONS, READ CHANNELS and READ CANDIDATES. -/
def Obligations.ListReads : Prop :=
  ∀ s : State, s.calm = true → s.busy = false → s.RangeLaw →
    let field (l : List Byte) (at_ size : Nat) : Nat := bytesValue ((l.drop at_).take size)
    let flag (p : Bool) : Nat := if p = true then 1 else 0
    let kinds : List (Kind × Nat) := [(.function, 0), (.duration, 1)]
    (∀ p : Byte,
        (31 < p.toNat → Returns (.readProfile p) s (List.replicate 42 0))
          ∧ (p.toNat ≤ 31 →
            ∃ l, Returns (.readProfile p) s l ∧ l.length = 42
              ∧ ∀ n b, n < 336 → l[n / 8]? = some b →
                b.getLsbD (7 - n % 8) = slotOpen (s.profileAt p.toNat) n))
      ∧ (s.exceptions.length ≤ 64 →
        ∃ l, Returns .readExceptions s l ∧ l.length = 1 + 11 * s.exceptions.length
          ∧ field l 0 1 = s.exceptions.length
          ∧ ∀ n e, s.exceptions[n]? = some e →
            field l (1 + 11 * n) 4 = e.start ∧ field l (5 + 11 * n) 4 = e.stop
              ∧ (e.scope = .campus → field l (9 + 11 * n) 1 = 0 ∧ field l (10 + 11 * n) 1 = 0)
              ∧ (∀ p, e.scope = .profile p → field l (9 + 11 * n) 1 = 1 ∧ field l (10 + 11 * n) 1 = p)
              ∧ (∀ z, e.scope = .zone z → field l (9 + 11 * n) 1 = 2 ∧ field l (10 + 11 * n) 1 = z)
              ∧ field l (11 + 11 * n) 1 = flag e.opens)
      ∧ (∃ l, Returns .readChannels s l ∧ l.length = 448
        ∧ ∀ k, k < 32 →
          let c := s.channelAt k
          (c.state, field l (14 * k) 1) ∈ [(.free, 0), (.ordered, 1), (.running, 2), (.stopping, 3), (.aborting, 4)]
            ∧ field l (14 * k + 1) 2 = c.index ∧ (c.kind, field l (14 * k + 3) 1) ∈ kinds
            ∧ field l (14 * k + 4) 1 = c.generation ∧ field l (14 * k + 5) 1 = flag c.started
            ∧ field l (14 * k + 6) 2 = c.runSeconds ∧ field l (14 * k + 8) 2 = c.elapsed
            ∧ (c.role, field l (14 * k + 10) 1) ∈ [(.none, 0), (.run, 1), (.answer, 2)]
            ∧ field l (14 * k + 11) 2 = c.target ∧ (c.path, field l (14 * k + 13) 1) ∈ [(.order, 0), (.halt, 1)])
      ∧ (s.planner.published.length ≤ 16 →
        ∃ l, Returns .readCandidates s l ∧ l.length = 7 + 9 * s.planner.published.length
          ∧ (s.planner.mode, field l 0 1) ∈ [(.off, 0), (.single, 1), (.repeating, 2)]
          ∧ (s.planner.phase, field l 3 1) ∈ [(.idle, 0), (.visiting, 1), (.dispatching, 2)]
          ∧ (s.planner.scope = .all → field l 1 1 = 0 ∧ field l 2 1 = 0)
          ∧ (∀ z, s.planner.scope = .zone z → field l 1 1 = 1 ∧ field l 2 1 = z)
          ∧ field l 4 2 = s.planner.publishedOverdue ∧ field l 6 1 = s.planner.published.length
          ∧ ∀ n e, s.planner.published[n]? = some e →
            field l (7 + 9 * n) 2 = e.entry.index ∧ (e.entry.kind, field l (9 + 9 * n) 1) ∈ kinds
              ∧ field l (10 + 9 * n) 1 = flag e.entry.requested ∧ field l (11 + 9 * n) 4 = e.entry.deadline
              ∧ (e.outcome, field l (15 + 9 * n) 1)
                ∈ [(.notTried, 0), (.dispatched, 1), (.backlog, 2), (.noChannel, 3), (.gone, 4), (.segmentDown, 5),
                  (.segmentFull, 6), (.zoneCover, 7), (.neighbour, 8)])

/-- R84 and 10.4: the record image. -/
def Obligations.RecordImage : Prop :=
  ∀ (s : State) (i : Nat) (r : Record), s.record? i = some r → s.NamesLaw → s.NeighbourLaw → s.RangeLaw →
    let l := recordImage i r
    let field (at_ size : Nat) : Nat := bytesValue ((l.drop at_).take size)
    let flagged (n : Nat) : Prop := field 7 1 / 2 ^ n % 2 = 1
    l.length = 48 ∧ field 0 2 = i
      ∧ (r.state, field 2 1)
        ∈ [(.ready, 0), (.ordered, 1), (.testing, 2), (.recharging, 3), (.faulty, 4), (.silent, 5)]
      ∧ field 3 1 = r.segment ∧ field 4 1 = r.address
      ∧ field 5 1 = r.zone ∧ field 6 1 = r.cls ∧ (flagged 7 ↔ r.lastFunction ≠ none)
      ∧ (flagged 6 ↔ r.lastDuration ≠ none) ∧ (flagged 5 ↔ r.hold ≠ none) ∧ (flagged 4 ↔ r.lastOutcome ≠ none)
      ∧ (flagged 3 ↔ r.shortInterval = true) ∧ (flagged 2 ↔ r.retirePending = true)
      ∧ (flagged 1 ↔ ∃ o, r.lastOutcome = some o ∧ o.rehearsal = true) ∧ ¬flagged 0
      ∧ (r.requested, field 8 1 / 16) ∈ [(none, 0), (some .function, 1), (some .duration, 2)]
      ∧ field 8 1 % 4 = r.noAnswer ∧ field 9 1 = r.neighbours.length
      ∧ (∀ n, n < 6 → field (10 + 2 * n) 2 = (r.neighbours[n]?).getD 65535)
      ∧ field 22 4 = r.enrolMinute ∧ field 26 4 = r.lastFunction.getD 0 ∧ field 30 4 = r.lastDuration.getD 0
      ∧ field 34 4 = r.hold.getD 0
      ∧ (r.lastOutcome = none → field 38 10 = 0)
      ∧ ∀ o, r.lastOutcome = some o →
        (o.kind, field 38 1 / 16) ∈ [(.function, 0), (.duration, 1)]
          ∧ (o.verdict, field 38 1 % 16)
            ∈ [(.pass, 0), (.passLow, 1), (.failCutoff, 2), (.failLamp, 3), (.refused, 4), (.noAnswer, 5), (.void, 6)]
          ∧ field 40 4 = o.closeMinute
          ∧ field 44 2 = o.measured ∧ field 46 2 = o.permille
          ∧ (o.detail, field 39 1)
            ∈ [(none, 0), (some .notCharged, 1), (some .notPresent, 2), (some .localTest, 3), (some .beforeStart, 4),
              (some .afterStart, 5)]

/-- R173 and R174: the first image of READ RECORD, WALK ZONE and WALK STATE. The examination runs upwards from the start
index, wrapping once, so a slot is examined before another when it lies nearer ahead of the start. R173 and R174: the
further images of a walk, from the next index to the start index, and end markers from there on, also for a walk begun
above 4,095, whether or not the port has become BUSY since the take (the model's reading, notes/assumptions/24.md); and
the end of a walk. -/
def Obligations.Walks : Prop :=
  (∀ (s : State) (start : Half), s.Canonical → s.calm = true → s.busy = false →
     let i := start.toNat
     let ahead (j : Nat) : Nat := (j + 4096 - i) % 4096
     let begun (f : WalkFilter) (next : Nat) (image : List Byte) : State :=
       { s with
         port :=
           { s.port with
             walk := some { filter := f, start := i, next := next }, output := image, statusRead := false } }
     let ones : List Byte := List.replicate 48 0xFF
     (4095 < i →
         exec (.readRecord start) s = .next (begun .all i ones)
           ∧ (∀ z, exec (.walkZone z start) s = .next (begun (.zone z.toNat) i ones))
           ∧ ∀ c, exec (.walkState c start) s = .next (begun (.state c.toNat) i ones))
       ∧ (i ≤ 4095 →
         (s.record? i = none →
             exec (.readRecord start) s
               = .next
                 (begun .all ((i + 1) % 4096)
                   (BitVec.ofNat 8 (i / 256) :: BitVec.ofNat 8 (i % 256) :: 7 :: List.replicate 45 0)))
           ∧ (∀ r, s.record? i = some r →
             exec (.readRecord start) s = .next (begun .all ((i + 1) % 4096) (recordImage i r)))
           ∧ ∀ (c : Instr) (f : WalkFilter) (member : Record → Prop),
             ((∃ z : Byte, c = .walkZone z start ∧ f = .zone z.toNat ∧ ∀ r, member r ↔ r.zone = z.toNat)
                 ∨ ∃ b : Byte, c = .walkState b start ∧ f = .state b.toNat
                   ∧ ∀ r, member r
                     ↔ (r.state, b.toNat)
                       ∈ [(.ready, 0), (.ordered, 1), (.testing, 2), (.recharging, 3), (.faulty, 4), (.silent, 5)]) →
             ((∀ j r, j < 4096 → s.record? j = some r → ¬member r) → exec c s = .next (begun f i ones))
               ∧ ∀ j r, j < 4096 → s.record? j = some r → member r →
                 (∀ n q, n < 4096 → s.record? n = some q → member q → ahead j ≤ ahead n) →
                 exec c s = .next (begun f ((j + 1) % 4096) (recordImage j r))))
    ∧ (∀ s : State, s.Canonical → s.calm = true →
         let ones : List Byte := List.replicate 48 0xFF
         exec .walkEnd s = .next { s with port := { s.port with walk := none } }
           ∧ (s.port.walk = none → Idles .walkNextImage s)
           ∧ (∀ c : WalkCursor, s.port.walk = some c → c.next = c.start →
             exec .walkNextImage s = .next { s with port := { s.port with output := ones } })
           ∧ ∀ c : WalkCursor, s.port.walk = some c → c.start < 4096 → c.next < 4096 →
             let member (r : Record) : Prop :=
               c.filter = .all ∨ c.filter = .zone r.zone
                 ∨ ∃ n, c.filter = .state n
                   ∧ (r.state, n)
                     ∈ [(.ready, 0), (.ordered, 1), (.testing, 2), (.recharging, 3), (.faulty, 4), (.silent, 5)]
             let ahead (j : Nat) : Nat := (j + 4096 - c.next) % 4096
             let left (j : Nat) : Prop := j < 4096 ∧ ahead j < ahead c.start
             ((∀ j r, left j → s.record? j = some r → ¬member r) →
                 exec .walkNextImage s
                   = .next
                     { s with port := { s.port with walk := some { c with next := c.start }, output := ones } })
               ∧ ∀ j r, left j → s.record? j = some r → member r →
                 (∀ n q, left n → s.record? n = some q → member q → ahead j ≤ ahead n) →
                 exec .walkNextImage s
                   = .next
                     { s with
                       port :=
                         { s.port with
                           walk := some { c with next := (j + 1) % 4096 }, output := recordImage j r } })

/-! ### Laws of the whole part -/

/-- Every law holds at part reset. -/
def Obligations.LawfulAtReset : Prop := State.reset.Lawful

/-- The canonical form of the tables (the model's choice, notes/assumptions/20.md) is kept by every step, from any state
that has it. -/
def Obligations.TablesStayCanonical : Prop :=
  ∀ s t : State, s.Canonical → step s = .next t → t.Canonical

/-- R4, R6, R9, R15: counts, names and the lookup agree with the records at every step. -/
def Obligations.RegisterCountsKept : Prop :=
  ∀ s t : State, s.Lawful → step s = .next t → t.NamesLaw ∧ t.ZoneCounts ∧ t.ClassUsers ∧ t.LookupLaw

/-- R17 and R23: the neighbour relation stays symmetric, irreflexive and small, and no two neighbours are under test
together. -/
def Obligations.NeighboursStayLit : Prop :=
  ∀ s t : State, s.Lawful → step s = .next t → t.NeighbourLaw ∧ t.DarknessLaw

/-- R13, R65 and R66: holds agree with states, a record is under test exactly while one channel is bound to it, and each
segment's active count is the number of its bound channels. -/
def Obligations.BindingKept : Prop :=
  ∀ s t : State, s.Lawful → step s = .next t → t.BindingLaw ∧ t.HoldLaw

/-- R107, R111, R112 and R135: timers and counts of the channels, and the orders they have queued, never more than 64.
-/
def Obligations.ChannelTimersAndOrdersKept : Prop :=
  ∀ s t : State, s.Lawful → step s = .next t → t.TimerLaw ∧ t.QueueLaw ∧ t.link.dispatch.length ≤ 64

/-- R36, R85, R98, R146, R157, R167, R173, R178 to R180 and the ranges of the manual: exceptions, candidate lists and the
trial position, programme, mains, attention, the host port; every quantity of State stays in its range. -/
def Obligations.OtherLawsKept : Prop :=
  ∀ s t : State, s.Lawful → step s = .next t →
    t.ExceptionLaw ∧ t.CandidateLaw ∧ t.ProgrammeLaw ∧ t.MainsLaw ∧ t.AttentionLaw ∧ t.PortLaw ∧ t.RangeLaw

/-- R26, R128 and R146: only a part reset unsets the clock, unconfigures the link or returns a segment's mains state to
UNKNOWN. -/
def Obligations.OnlyPartResetForgets : Prop :=
  ∀ (c : Instr) (s t : State), c ≠ .partReset → c ≠ .resetPart → c ≠ .accept [0x2F] .whole → exec c s = .next t →
    (s.clock.isSet = true → t.clock.isSet = true) ∧ (s.link.configured = true → t.link.configured = true)
      ∧ ∀ g, (s.segmentAt g).mains ≠ .unknown → (t.segmentAt g).mains ≠ .unknown
end

