-- ==== Sys2Proof/Laws/Table.lean ====
section
/-! SUPPORT. What a sparse table reads after each operation, and that every operation keeps the canonical form. -/

namespace Sys2Proof.Machine

variable {α : Type}

@[simp] theorem Table.at?_nil (k : Nat) : Table.at? ([] : Table α) k = none := rfl

theorem Table.at?_cons (j : Nat) (v : α) (t : Table α) (k : Nat) :
    Table.at? ((j, v) :: t) k = if j = k then some v else Table.at? t k := rfl

@[simp] theorem Table.atD_nil (k : Nat) (d : α) : Table.atD ([] : Table α) k d = d := rfl

theorem Table.at?_store (t : Table α) (k : Nat) (v : α) (j : Nat) :
    Table.at? (Table.store t k v) j = if k = j then some v else Table.at? t j := by
  induction t with
  | nil => rfl
  | cons e t ih =>
    obtain ⟨i, w⟩ := e
    simp only [Table.store]
    split
    · rfl
    · split
      · subst_vars; simp only [Table.at?_cons]; split <;> rfl
      · simp only [Table.at?_cons, ih]
        split
        · split
          · omega
          · rfl
        · rfl

@[simp] theorem Table.at?_store_self (t : Table α) (k : Nat) (v : α) : Table.at? (Table.store t k v) k = some v := by
  simp [Table.at?_store]

theorem Table.at?_store_other (t : Table α) {k j : Nat} (v : α) (h : k ≠ j) :
    Table.at? (Table.store t k v) j = Table.at? t j := by
  simp [Table.at?_store, h]

theorem Table.at?_remove (t : Table α) (k j : Nat) :
    Table.at? (Table.remove t k) j = if k = j then none else Table.at? t j := by
  induction t with
  | nil => simp [Table.remove]
  | cons e t ih =>
    obtain ⟨i, w⟩ := e
    simp only [Table.remove] at ih ⊢
    by_cases hik : i = k
    · subst hik
      simp only [bne_self_eq_false, Bool.false_eq_true, not_false_eq_true, List.filter_cons_of_neg, ih, Table.at?_cons]
      split <;> rfl
    · simp only [bne_iff_ne, ne_eq, hik, not_false_eq_true, List.filter_cons_of_pos, Table.at?_cons, ih]
      split
      · split
        · omega
        · rfl
      · rfl

@[simp] theorem Table.at?_remove_self (t : Table α) (k : Nat) : Table.at? (Table.remove t k) k = none := by
  simp [Table.at?_remove]

theorem Table.atD_put [DecidableEq α] (d : α) (t : Table α) (k : Nat) (v : α) (j : Nat) :
    Table.atD (Table.put d t k v) j d = if k = j then v else Table.atD t j d := by
  unfold Table.atD Table.put
  split
  · subst_vars; rw [Table.at?_remove]; split <;> rfl
  · rw [Table.at?_store]; split <;> rfl

@[simp] theorem Table.atD_put_self [DecidableEq α] (d : α) (t : Table α) (k : Nat) (v : α) :
    Table.atD (Table.put d t k v) k d = v := by
  simp [Table.atD_put]

theorem Table.atD_put_other [DecidableEq α] (d : α) (t : Table α) {k j : Nat} (v : α) (h : k ≠ j) :
    Table.atD (Table.put d t k v) j d = Table.atD t j d := by
  simp [Table.atD_put, h]

/-! ### The canonical form -/

theorem Table.mem_store {t : Table α} {k : Nat} {v : α} {e : Nat × α} (h : e ∈ Table.store t k v) :
    e = (k, v) ∨ e ∈ t := by
  induction t with
  | nil => simp [Table.store] at h; exact .inl h
  | cons x t ih =>
    obtain ⟨j, w⟩ := x
    simp only [Table.store] at h
    split at h
    · simpa using h
    · split at h
      · rcases List.mem_cons.mp h with h | h
        · exact .inl h
        · exact .inr (List.mem_cons_of_mem _ h)
      · rcases List.mem_cons.mp h with h | h
        · exact .inr (h ▸ List.mem_cons_self)
        · rcases ih h with h | h
          · exact .inl h
          · exact .inr (List.mem_cons_of_mem _ h)

theorem Table.rising_store {t : Table α} (k : Nat) (v : α) (h : Table.Rising t) : Table.Rising (Table.store t k v) := by
  induction t with
  | nil => simp [Table.store, Table.Rising]
  | cons x t ih =>
    obtain ⟨j, w⟩ := x
    obtain ⟨hx, ht⟩ := List.pairwise_cons.mp h
    simp only [Table.store]
    split
    next hkj =>
      refine List.pairwise_cons.mpr ⟨fun e he => ?_, h⟩
      rcases List.mem_cons.mp he with he | he
      · subst he; exact hkj
      · exact lt_trans hkj (hx e he)
    next hkj =>
      split
      next hk => subst hk; exact List.pairwise_cons.mpr ⟨hx, ht⟩
      next hk =>
        refine List.pairwise_cons.mpr ⟨fun e he => ?_, ih ht⟩
        rcases Table.mem_store he with he | he
        · subst he; show j < k; omega
        · exact hx e he

theorem Table.rising_remove {t : Table α} (k : Nat) (h : Table.Rising t) : Table.Rising (Table.remove t k) :=
  List.Pairwise.sublist List.filter_sublist h

theorem Table.canonical_nil (d : α) : Table.Canonical d ([] : Table α) := ⟨List.Pairwise.nil, fun _ h => by cases h⟩

theorem Table.canonical_put [DecidableEq α] {d : α} {t : Table α} (k : Nat) (v : α) (h : Table.Canonical d t) :
    Table.Canonical d (Table.put d t k v) := by
  unfold Table.put
  split
  · exact ⟨Table.rising_remove k h.1, fun e he => h.2 e (List.mem_filter.mp he).1⟩
  next hv =>
    refine ⟨Table.rising_store k v h.1, fun e he => ?_⟩
    rcases Table.mem_store he with he | he
    · subst he; exact hv
    · exact h.2 e he

theorem Table.mem_mapD [DecidableEq α] {d : α} {f : α → α} {t : Table α} {e : Nat × α} (h : e ∈ Table.mapD d f t) :
    ∃ v, (e.1, v) ∈ t ∧ e.2 = f v ∧ f v ≠ d := by
  obtain ⟨x, hx, he⟩ := List.mem_filterMap.mp h
  split at he
  · cases he
  next hd => cases he; exact ⟨x.2, hx, rfl, hd⟩

theorem Table.canonical_mapD [DecidableEq α] {d : α} {t : Table α} (f : α → α) (h : Table.Rising t) :
    Table.Canonical d (Table.mapD d f t) := by
  refine ⟨?_, fun e he => ?_⟩
  · induction t with
    | nil => exact List.Pairwise.nil
    | cons x t ih =>
      obtain ⟨hx, ht⟩ := List.pairwise_cons.mp h
      unfold Table.mapD at ih ⊢
      rw [List.filterMap_cons]
      split
      · exact ih ht
      next y hy =>
        split at hy
        · cases hy
        · cases hy
          refine List.pairwise_cons.mpr ⟨fun e he => ?_, ih ht⟩
          obtain ⟨v, hv, -, -⟩ := Table.mem_mapD he
          exact hx (e.1, v) hv
  · obtain ⟨v, -, hv, hd⟩ := Table.mem_mapD he
    exact hv ▸ hd

theorem Table.at?_none_of_below {t : Table α} {k : Nat} (h : ∀ e ∈ t, k < e.1) : Table.at? t k = none := by
  induction t with
  | nil => rfl
  | cons x t ih =>
    rw [Table.at?_cons, if_neg (by have := h x List.mem_cons_self; omega)]
    exact ih fun e he => h e (List.mem_cons_of_mem _ he)

theorem Table.atD_mapD [DecidableEq α] {d : α} {t : Table α} {f : α → α} (hf : f d = d) (h : Table.Rising t) (k : Nat) :
    Table.atD (Table.mapD d f t) k d = f (Table.atD t k d) := by
  induction t with
  | nil => simp [Table.mapD, hf]
  | cons x t ih =>
    obtain ⟨hx, ht⟩ := List.pairwise_cons.mp h
    obtain ⟨j, v⟩ := x
    have ih := ih ht
    unfold Table.atD Table.mapD at ih ⊢
    rw [List.filterMap_cons, Table.at?_cons]
    by_cases hjk : j = k
    · subst hjk
      have hn : Table.at? t j = none := Table.at?_none_of_below hx
      simp only [hn, Option.getD_none, hf] at ih
      by_cases hd : f v = d
      · simp [hd, ih]
      · simp [hd, Table.at?_cons]
    · by_cases hd : f v = d
      · simp [hd, hjk, ih]
      · simp [hd, hjk, ih, Table.at?_cons]

/-- In a table with rising keys, an entry is listed exactly where its index reads as its value. -/
theorem Table.mem_iff_at? {t : Table α} (h : Table.Rising t) (k : Nat) (v : α) :
    (k, v) ∈ t ↔ Table.at? t k = some v := by
  induction t with
  | nil => simp
  | cons x t ih =>
    obtain ⟨hx, ht⟩ := List.pairwise_cons.mp h
    obtain ⟨j, w⟩ := x
    rw [Table.at?_cons, List.mem_cons, ih ht]
    by_cases hjk : j = k
    · subst hjk
      have hn : Table.at? t j = none := Table.at?_none_of_below hx
      simp [hn, eq_comm]
    · simp [hjk, Ne.symm hjk]

/-! ### A property of every entry -/

theorem Table.mem_of_at? {t : Table α} {k : Nat} {v : α} (h : Table.at? t k = some v) : (k, v) ∈ t := by
  induction t with
  | nil => cases h
  | cons x t ih =>
    rw [Table.at?_cons] at h
    split at h
    · subst_vars; cases h; exact List.mem_cons_self
    · exact List.mem_cons_of_mem _ (ih h)

/-- What holds of every listed entry holds of every entry that is found. -/
theorem Table.forall_at? {t : Table α} {P : Nat → α → Prop} (h : ∀ e ∈ t, P e.1 e.2) (k : Nat) (v : α)
    (hv : Table.at? t k = some v) : P k v :=
  h _ (Table.mem_of_at? hv)

/-- What holds of every listed entry, and of the part reset value at every index, holds at every index. -/
theorem Table.forall_atD {t : Table α} {d : α} {P : Nat → α → Prop} (h : ∀ e ∈ t, P e.1 e.2) (hd : ∀ k, P k d)
    (k : Nat) : P k (Table.atD t k d) := by
  unfold Table.atD
  cases hv : Table.at? t k with
  | none => exact hd k
  | some v => exact Table.forall_at? h k v hv

end Sys2Proof.Machine
end

