-- ==== Sys2Proof/Laws/State.lean ====
section
/-! SUPPORT. Every named update of State, one lemma for each field it leaves alone, and what each accessor reads after
it. -/

namespace Sys2Proof.Machine

variable (s : State)

/-! ### State.setRecord -/

@[simp] theorem State.setRecord_classes (i : Nat) (r : Record) : (s.setRecord i r).classes = s.classes := rfl
@[simp] theorem State.setRecord_zones (i : Nat) (r : Record) : (s.setRecord i r).zones = s.zones := rfl
@[simp] theorem State.setRecord_segments (i : Nat) (r : Record) : (s.setRecord i r).segments = s.segments := rfl
@[simp] theorem State.setRecord_lookup (i : Nat) (r : Record) : (s.setRecord i r).lookup = s.lookup := rfl
@[simp] theorem State.setRecord_clock (i : Nat) (r : Record) : (s.setRecord i r).clock = s.clock := rfl
@[simp] theorem State.setRecord_profiles (i : Nat) (r : Record) : (s.setRecord i r).profiles = s.profiles := rfl
@[simp] theorem State.setRecord_exceptions (i : Nat) (r : Record) : (s.setRecord i r).exceptions = s.exceptions := rfl
@[simp] theorem State.setRecord_planner (i : Nat) (r : Record) : (s.setRecord i r).planner = s.planner := rfl
@[simp] theorem State.setRecord_channels (i : Nat) (r : Record) : (s.setRecord i r).channels = s.channels := rfl
@[simp] theorem State.setRecord_answerTime (i : Nat) (r : Record) : (s.setRecord i r).answerTime = s.answerTime := rfl
@[simp] theorem State.setRecord_link (i : Nat) (r : Record) : (s.setRecord i r).link = s.link := rfl
@[simp] theorem State.setRecord_pendingHalt (i : Nat) (r : Record) : (s.setRecord i r).pendingHalt = s.pendingHalt := rfl
@[simp] theorem State.setRecord_programme (i : Nat) (r : Record) : (s.setRecord i r).programme = s.programme := rfl
@[simp] theorem State.setRecord_port (i : Nat) (r : Record) : (s.setRecord i r).port = s.port := rfl
@[simp] theorem State.setRecord_attention (i : Nat) (r : Record) : (s.setRecord i r).attention = s.attention := rfl
@[simp] theorem State.setRecord_line (i : Nat) (r : Record) : (s.setRecord i r).line = s.line := rfl
@[simp] theorem State.setRecord_pending (i : Nat) (r : Record) : (s.setRecord i r).pending = s.pending := rfl

/-! ### State.dropRecord -/

@[simp] theorem State.dropRecord_classes (i : Nat) : (s.dropRecord i).classes = s.classes := rfl
@[simp] theorem State.dropRecord_zones (i : Nat) : (s.dropRecord i).zones = s.zones := rfl
@[simp] theorem State.dropRecord_segments (i : Nat) : (s.dropRecord i).segments = s.segments := rfl
@[simp] theorem State.dropRecord_lookup (i : Nat) : (s.dropRecord i).lookup = s.lookup := rfl
@[simp] theorem State.dropRecord_clock (i : Nat) : (s.dropRecord i).clock = s.clock := rfl
@[simp] theorem State.dropRecord_profiles (i : Nat) : (s.dropRecord i).profiles = s.profiles := rfl
@[simp] theorem State.dropRecord_exceptions (i : Nat) : (s.dropRecord i).exceptions = s.exceptions := rfl
@[simp] theorem State.dropRecord_planner (i : Nat) : (s.dropRecord i).planner = s.planner := rfl
@[simp] theorem State.dropRecord_channels (i : Nat) : (s.dropRecord i).channels = s.channels := rfl
@[simp] theorem State.dropRecord_answerTime (i : Nat) : (s.dropRecord i).answerTime = s.answerTime := rfl
@[simp] theorem State.dropRecord_link (i : Nat) : (s.dropRecord i).link = s.link := rfl
@[simp] theorem State.dropRecord_pendingHalt (i : Nat) : (s.dropRecord i).pendingHalt = s.pendingHalt := rfl
@[simp] theorem State.dropRecord_programme (i : Nat) : (s.dropRecord i).programme = s.programme := rfl
@[simp] theorem State.dropRecord_port (i : Nat) : (s.dropRecord i).port = s.port := rfl
@[simp] theorem State.dropRecord_attention (i : Nat) : (s.dropRecord i).attention = s.attention := rfl
@[simp] theorem State.dropRecord_line (i : Nat) : (s.dropRecord i).line = s.line := rfl
@[simp] theorem State.dropRecord_pending (i : Nat) : (s.dropRecord i).pending = s.pending := rfl

/-! ### State.setClass -/

@[simp] theorem State.setClass_luminaires (c : Nat) (e : ClassEntry) : (s.setClass c e).luminaires = s.luminaires := rfl
@[simp] theorem State.setClass_zones (c : Nat) (e : ClassEntry) : (s.setClass c e).zones = s.zones := rfl
@[simp] theorem State.setClass_segments (c : Nat) (e : ClassEntry) : (s.setClass c e).segments = s.segments := rfl
@[simp] theorem State.setClass_lookup (c : Nat) (e : ClassEntry) : (s.setClass c e).lookup = s.lookup := rfl
@[simp] theorem State.setClass_clock (c : Nat) (e : ClassEntry) : (s.setClass c e).clock = s.clock := rfl
@[simp] theorem State.setClass_profiles (c : Nat) (e : ClassEntry) : (s.setClass c e).profiles = s.profiles := rfl
@[simp] theorem State.setClass_exceptions (c : Nat) (e : ClassEntry) : (s.setClass c e).exceptions = s.exceptions := rfl
@[simp] theorem State.setClass_planner (c : Nat) (e : ClassEntry) : (s.setClass c e).planner = s.planner := rfl
@[simp] theorem State.setClass_channels (c : Nat) (e : ClassEntry) : (s.setClass c e).channels = s.channels := rfl
@[simp] theorem State.setClass_answerTime (c : Nat) (e : ClassEntry) : (s.setClass c e).answerTime = s.answerTime := rfl
@[simp] theorem State.setClass_link (c : Nat) (e : ClassEntry) : (s.setClass c e).link = s.link := rfl
@[simp] theorem State.setClass_pendingHalt (c : Nat) (e : ClassEntry) : (s.setClass c e).pendingHalt = s.pendingHalt := rfl
@[simp] theorem State.setClass_programme (c : Nat) (e : ClassEntry) : (s.setClass c e).programme = s.programme := rfl
@[simp] theorem State.setClass_port (c : Nat) (e : ClassEntry) : (s.setClass c e).port = s.port := rfl
@[simp] theorem State.setClass_attention (c : Nat) (e : ClassEntry) : (s.setClass c e).attention = s.attention := rfl
@[simp] theorem State.setClass_line (c : Nat) (e : ClassEntry) : (s.setClass c e).line = s.line := rfl
@[simp] theorem State.setClass_pending (c : Nat) (e : ClassEntry) : (s.setClass c e).pending = s.pending := rfl

/-! ### State.setZone -/

@[simp] theorem State.setZone_luminaires (z : Nat) (e : Zone) : (s.setZone z e).luminaires = s.luminaires := rfl
@[simp] theorem State.setZone_classes (z : Nat) (e : Zone) : (s.setZone z e).classes = s.classes := rfl
@[simp] theorem State.setZone_segments (z : Nat) (e : Zone) : (s.setZone z e).segments = s.segments := rfl
@[simp] theorem State.setZone_lookup (z : Nat) (e : Zone) : (s.setZone z e).lookup = s.lookup := rfl
@[simp] theorem State.setZone_clock (z : Nat) (e : Zone) : (s.setZone z e).clock = s.clock := rfl
@[simp] theorem State.setZone_profiles (z : Nat) (e : Zone) : (s.setZone z e).profiles = s.profiles := rfl
@[simp] theorem State.setZone_exceptions (z : Nat) (e : Zone) : (s.setZone z e).exceptions = s.exceptions := rfl
@[simp] theorem State.setZone_planner (z : Nat) (e : Zone) : (s.setZone z e).planner = s.planner := rfl
@[simp] theorem State.setZone_channels (z : Nat) (e : Zone) : (s.setZone z e).channels = s.channels := rfl
@[simp] theorem State.setZone_answerTime (z : Nat) (e : Zone) : (s.setZone z e).answerTime = s.answerTime := rfl
@[simp] theorem State.setZone_link (z : Nat) (e : Zone) : (s.setZone z e).link = s.link := rfl
@[simp] theorem State.setZone_pendingHalt (z : Nat) (e : Zone) : (s.setZone z e).pendingHalt = s.pendingHalt := rfl
@[simp] theorem State.setZone_programme (z : Nat) (e : Zone) : (s.setZone z e).programme = s.programme := rfl
@[simp] theorem State.setZone_port (z : Nat) (e : Zone) : (s.setZone z e).port = s.port := rfl
@[simp] theorem State.setZone_attention (z : Nat) (e : Zone) : (s.setZone z e).attention = s.attention := rfl
@[simp] theorem State.setZone_line (z : Nat) (e : Zone) : (s.setZone z e).line = s.line := rfl
@[simp] theorem State.setZone_pending (z : Nat) (e : Zone) : (s.setZone z e).pending = s.pending := rfl

/-! ### State.setSegment -/

@[simp] theorem State.setSegment_luminaires (g : Nat) (e : Segment) : (s.setSegment g e).luminaires = s.luminaires := rfl
@[simp] theorem State.setSegment_classes (g : Nat) (e : Segment) : (s.setSegment g e).classes = s.classes := rfl
@[simp] theorem State.setSegment_zones (g : Nat) (e : Segment) : (s.setSegment g e).zones = s.zones := rfl
@[simp] theorem State.setSegment_lookup (g : Nat) (e : Segment) : (s.setSegment g e).lookup = s.lookup := rfl
@[simp] theorem State.setSegment_clock (g : Nat) (e : Segment) : (s.setSegment g e).clock = s.clock := rfl
@[simp] theorem State.setSegment_profiles (g : Nat) (e : Segment) : (s.setSegment g e).profiles = s.profiles := rfl
@[simp] theorem State.setSegment_exceptions (g : Nat) (e : Segment) : (s.setSegment g e).exceptions = s.exceptions := rfl
@[simp] theorem State.setSegment_planner (g : Nat) (e : Segment) : (s.setSegment g e).planner = s.planner := rfl
@[simp] theorem State.setSegment_channels (g : Nat) (e : Segment) : (s.setSegment g e).channels = s.channels := rfl
@[simp] theorem State.setSegment_answerTime (g : Nat) (e : Segment) : (s.setSegment g e).answerTime = s.answerTime := rfl
@[simp] theorem State.setSegment_link (g : Nat) (e : Segment) : (s.setSegment g e).link = s.link := rfl
@[simp] theorem State.setSegment_pendingHalt (g : Nat) (e : Segment) : (s.setSegment g e).pendingHalt = s.pendingHalt := rfl
@[simp] theorem State.setSegment_programme (g : Nat) (e : Segment) : (s.setSegment g e).programme = s.programme := rfl
@[simp] theorem State.setSegment_port (g : Nat) (e : Segment) : (s.setSegment g e).port = s.port := rfl
@[simp] theorem State.setSegment_attention (g : Nat) (e : Segment) : (s.setSegment g e).attention = s.attention := rfl
@[simp] theorem State.setSegment_line (g : Nat) (e : Segment) : (s.setSegment g e).line = s.line := rfl
@[simp] theorem State.setSegment_pending (g : Nat) (e : Segment) : (s.setSegment g e).pending = s.pending := rfl

/-! ### State.setChannel -/

@[simp] theorem State.setChannel_luminaires (k : Nat) (c : Channel) : (s.setChannel k c).luminaires = s.luminaires := rfl
@[simp] theorem State.setChannel_classes (k : Nat) (c : Channel) : (s.setChannel k c).classes = s.classes := rfl
@[simp] theorem State.setChannel_zones (k : Nat) (c : Channel) : (s.setChannel k c).zones = s.zones := rfl
@[simp] theorem State.setChannel_segments (k : Nat) (c : Channel) : (s.setChannel k c).segments = s.segments := rfl
@[simp] theorem State.setChannel_lookup (k : Nat) (c : Channel) : (s.setChannel k c).lookup = s.lookup := rfl
@[simp] theorem State.setChannel_clock (k : Nat) (c : Channel) : (s.setChannel k c).clock = s.clock := rfl
@[simp] theorem State.setChannel_profiles (k : Nat) (c : Channel) : (s.setChannel k c).profiles = s.profiles := rfl
@[simp] theorem State.setChannel_exceptions (k : Nat) (c : Channel) : (s.setChannel k c).exceptions = s.exceptions := rfl
@[simp] theorem State.setChannel_planner (k : Nat) (c : Channel) : (s.setChannel k c).planner = s.planner := rfl
@[simp] theorem State.setChannel_answerTime (k : Nat) (c : Channel) : (s.setChannel k c).answerTime = s.answerTime := rfl
@[simp] theorem State.setChannel_link (k : Nat) (c : Channel) : (s.setChannel k c).link = s.link := rfl
@[simp] theorem State.setChannel_pendingHalt (k : Nat) (c : Channel) : (s.setChannel k c).pendingHalt = s.pendingHalt := rfl
@[simp] theorem State.setChannel_programme (k : Nat) (c : Channel) : (s.setChannel k c).programme = s.programme := rfl
@[simp] theorem State.setChannel_port (k : Nat) (c : Channel) : (s.setChannel k c).port = s.port := rfl
@[simp] theorem State.setChannel_attention (k : Nat) (c : Channel) : (s.setChannel k c).attention = s.attention := rfl
@[simp] theorem State.setChannel_line (k : Nat) (c : Channel) : (s.setChannel k c).line = s.line := rfl
@[simp] theorem State.setChannel_pending (k : Nat) (c : Channel) : (s.setChannel k c).pending = s.pending := rfl

/-! ### State.setProfile -/

@[simp] theorem State.setProfile_luminaires (p : Nat) (v : Slots) : (s.setProfile p v).luminaires = s.luminaires := rfl
@[simp] theorem State.setProfile_classes (p : Nat) (v : Slots) : (s.setProfile p v).classes = s.classes := rfl
@[simp] theorem State.setProfile_zones (p : Nat) (v : Slots) : (s.setProfile p v).zones = s.zones := rfl
@[simp] theorem State.setProfile_segments (p : Nat) (v : Slots) : (s.setProfile p v).segments = s.segments := rfl
@[simp] theorem State.setProfile_lookup (p : Nat) (v : Slots) : (s.setProfile p v).lookup = s.lookup := rfl
@[simp] theorem State.setProfile_clock (p : Nat) (v : Slots) : (s.setProfile p v).clock = s.clock := rfl
@[simp] theorem State.setProfile_exceptions (p : Nat) (v : Slots) : (s.setProfile p v).exceptions = s.exceptions := rfl
@[simp] theorem State.setProfile_planner (p : Nat) (v : Slots) : (s.setProfile p v).planner = s.planner := rfl
@[simp] theorem State.setProfile_channels (p : Nat) (v : Slots) : (s.setProfile p v).channels = s.channels := rfl
@[simp] theorem State.setProfile_answerTime (p : Nat) (v : Slots) : (s.setProfile p v).answerTime = s.answerTime := rfl
@[simp] theorem State.setProfile_link (p : Nat) (v : Slots) : (s.setProfile p v).link = s.link := rfl
@[simp] theorem State.setProfile_pendingHalt (p : Nat) (v : Slots) : (s.setProfile p v).pendingHalt = s.pendingHalt := rfl
@[simp] theorem State.setProfile_programme (p : Nat) (v : Slots) : (s.setProfile p v).programme = s.programme := rfl
@[simp] theorem State.setProfile_port (p : Nat) (v : Slots) : (s.setProfile p v).port = s.port := rfl
@[simp] theorem State.setProfile_attention (p : Nat) (v : Slots) : (s.setProfile p v).attention = s.attention := rfl
@[simp] theorem State.setProfile_line (p : Nat) (v : Slots) : (s.setProfile p v).line = s.line := rfl
@[simp] theorem State.setProfile_pending (p : Nat) (v : Slots) : (s.setProfile p v).pending = s.pending := rfl

/-! ### State.addLocation -/

@[simp] theorem State.addLocation_luminaires (g a i : Nat) : (s.addLocation g a i).luminaires = s.luminaires := rfl
@[simp] theorem State.addLocation_classes (g a i : Nat) : (s.addLocation g a i).classes = s.classes := rfl
@[simp] theorem State.addLocation_zones (g a i : Nat) : (s.addLocation g a i).zones = s.zones := rfl
@[simp] theorem State.addLocation_segments (g a i : Nat) : (s.addLocation g a i).segments = s.segments := rfl
@[simp] theorem State.addLocation_clock (g a i : Nat) : (s.addLocation g a i).clock = s.clock := rfl
@[simp] theorem State.addLocation_profiles (g a i : Nat) : (s.addLocation g a i).profiles = s.profiles := rfl
@[simp] theorem State.addLocation_exceptions (g a i : Nat) : (s.addLocation g a i).exceptions = s.exceptions := rfl
@[simp] theorem State.addLocation_planner (g a i : Nat) : (s.addLocation g a i).planner = s.planner := rfl
@[simp] theorem State.addLocation_channels (g a i : Nat) : (s.addLocation g a i).channels = s.channels := rfl
@[simp] theorem State.addLocation_answerTime (g a i : Nat) : (s.addLocation g a i).answerTime = s.answerTime := rfl
@[simp] theorem State.addLocation_link (g a i : Nat) : (s.addLocation g a i).link = s.link := rfl
@[simp] theorem State.addLocation_pendingHalt (g a i : Nat) : (s.addLocation g a i).pendingHalt = s.pendingHalt := rfl
@[simp] theorem State.addLocation_programme (g a i : Nat) : (s.addLocation g a i).programme = s.programme := rfl
@[simp] theorem State.addLocation_port (g a i : Nat) : (s.addLocation g a i).port = s.port := rfl
@[simp] theorem State.addLocation_attention (g a i : Nat) : (s.addLocation g a i).attention = s.attention := rfl
@[simp] theorem State.addLocation_line (g a i : Nat) : (s.addLocation g a i).line = s.line := rfl
@[simp] theorem State.addLocation_pending (g a i : Nat) : (s.addLocation g a i).pending = s.pending := rfl

/-! ### State.removeLocation -/

@[simp] theorem State.removeLocation_luminaires (g a : Nat) : (s.removeLocation g a).luminaires = s.luminaires := rfl
@[simp] theorem State.removeLocation_classes (g a : Nat) : (s.removeLocation g a).classes = s.classes := rfl
@[simp] theorem State.removeLocation_zones (g a : Nat) : (s.removeLocation g a).zones = s.zones := rfl
@[simp] theorem State.removeLocation_segments (g a : Nat) : (s.removeLocation g a).segments = s.segments := rfl
@[simp] theorem State.removeLocation_clock (g a : Nat) : (s.removeLocation g a).clock = s.clock := rfl
@[simp] theorem State.removeLocation_profiles (g a : Nat) : (s.removeLocation g a).profiles = s.profiles := rfl
@[simp] theorem State.removeLocation_exceptions (g a : Nat) : (s.removeLocation g a).exceptions = s.exceptions := rfl
@[simp] theorem State.removeLocation_planner (g a : Nat) : (s.removeLocation g a).planner = s.planner := rfl
@[simp] theorem State.removeLocation_channels (g a : Nat) : (s.removeLocation g a).channels = s.channels := rfl
@[simp] theorem State.removeLocation_answerTime (g a : Nat) : (s.removeLocation g a).answerTime = s.answerTime := rfl
@[simp] theorem State.removeLocation_link (g a : Nat) : (s.removeLocation g a).link = s.link := rfl
@[simp] theorem State.removeLocation_pendingHalt (g a : Nat) : (s.removeLocation g a).pendingHalt = s.pendingHalt := rfl
@[simp] theorem State.removeLocation_programme (g a : Nat) : (s.removeLocation g a).programme = s.programme := rfl
@[simp] theorem State.removeLocation_port (g a : Nat) : (s.removeLocation g a).port = s.port := rfl
@[simp] theorem State.removeLocation_attention (g a : Nat) : (s.removeLocation g a).attention = s.attention := rfl
@[simp] theorem State.removeLocation_line (g a : Nat) : (s.removeLocation g a).line = s.line := rfl
@[simp] theorem State.removeLocation_pending (g a : Nat) : (s.removeLocation g a).pending = s.pending := rfl

/-! ### State.setCause -/

@[simp] theorem State.setCause_luminaires (c : Cause) (v : CauseState) : (s.setCause c v).luminaires = s.luminaires := rfl
@[simp] theorem State.setCause_classes (c : Cause) (v : CauseState) : (s.setCause c v).classes = s.classes := rfl
@[simp] theorem State.setCause_zones (c : Cause) (v : CauseState) : (s.setCause c v).zones = s.zones := rfl
@[simp] theorem State.setCause_segments (c : Cause) (v : CauseState) : (s.setCause c v).segments = s.segments := rfl
@[simp] theorem State.setCause_lookup (c : Cause) (v : CauseState) : (s.setCause c v).lookup = s.lookup := rfl
@[simp] theorem State.setCause_clock (c : Cause) (v : CauseState) : (s.setCause c v).clock = s.clock := rfl
@[simp] theorem State.setCause_profiles (c : Cause) (v : CauseState) : (s.setCause c v).profiles = s.profiles := rfl
@[simp] theorem State.setCause_exceptions (c : Cause) (v : CauseState) : (s.setCause c v).exceptions = s.exceptions := rfl
@[simp] theorem State.setCause_planner (c : Cause) (v : CauseState) : (s.setCause c v).planner = s.planner := rfl
@[simp] theorem State.setCause_channels (c : Cause) (v : CauseState) : (s.setCause c v).channels = s.channels := rfl
@[simp] theorem State.setCause_answerTime (c : Cause) (v : CauseState) : (s.setCause c v).answerTime = s.answerTime := rfl
@[simp] theorem State.setCause_link (c : Cause) (v : CauseState) : (s.setCause c v).link = s.link := rfl
@[simp] theorem State.setCause_pendingHalt (c : Cause) (v : CauseState) : (s.setCause c v).pendingHalt = s.pendingHalt := rfl
@[simp] theorem State.setCause_programme (c : Cause) (v : CauseState) : (s.setCause c v).programme = s.programme := rfl
@[simp] theorem State.setCause_port (c : Cause) (v : CauseState) : (s.setCause c v).port = s.port := rfl
@[simp] theorem State.setCause_line (c : Cause) (v : CauseState) : (s.setCause c v).line = s.line := rfl
@[simp] theorem State.setCause_pending (c : Cause) (v : CauseState) : (s.setCause c v).pending = s.pending := rfl

/-! ### State.raise -/

@[simp] theorem State.raise_luminaires (c : Cause) (v : Nat) : (s.raise c v).luminaires = s.luminaires := rfl
@[simp] theorem State.raise_classes (c : Cause) (v : Nat) : (s.raise c v).classes = s.classes := rfl
@[simp] theorem State.raise_zones (c : Cause) (v : Nat) : (s.raise c v).zones = s.zones := rfl
@[simp] theorem State.raise_segments (c : Cause) (v : Nat) : (s.raise c v).segments = s.segments := rfl
@[simp] theorem State.raise_lookup (c : Cause) (v : Nat) : (s.raise c v).lookup = s.lookup := rfl
@[simp] theorem State.raise_clock (c : Cause) (v : Nat) : (s.raise c v).clock = s.clock := rfl
@[simp] theorem State.raise_profiles (c : Cause) (v : Nat) : (s.raise c v).profiles = s.profiles := rfl
@[simp] theorem State.raise_exceptions (c : Cause) (v : Nat) : (s.raise c v).exceptions = s.exceptions := rfl
@[simp] theorem State.raise_planner (c : Cause) (v : Nat) : (s.raise c v).planner = s.planner := rfl
@[simp] theorem State.raise_channels (c : Cause) (v : Nat) : (s.raise c v).channels = s.channels := rfl
@[simp] theorem State.raise_answerTime (c : Cause) (v : Nat) : (s.raise c v).answerTime = s.answerTime := rfl
@[simp] theorem State.raise_link (c : Cause) (v : Nat) : (s.raise c v).link = s.link := rfl
@[simp] theorem State.raise_pendingHalt (c : Cause) (v : Nat) : (s.raise c v).pendingHalt = s.pendingHalt := rfl
@[simp] theorem State.raise_programme (c : Cause) (v : Nat) : (s.raise c v).programme = s.programme := rfl
@[simp] theorem State.raise_port (c : Cause) (v : Nat) : (s.raise c v).port = s.port := rfl
@[simp] theorem State.raise_line (c : Cause) (v : Nat) : (s.raise c v).line = s.line := rfl
@[simp] theorem State.raise_pending (c : Cause) (v : Nat) : (s.raise c v).pending = s.pending := rfl

/-! ### State.raiseProgramme -/

@[simp] theorem State.raiseProgramme_luminaires : (s.raiseProgramme).luminaires = s.luminaires := rfl
@[simp] theorem State.raiseProgramme_classes : (s.raiseProgramme).classes = s.classes := rfl
@[simp] theorem State.raiseProgramme_zones : (s.raiseProgramme).zones = s.zones := rfl
@[simp] theorem State.raiseProgramme_segments : (s.raiseProgramme).segments = s.segments := rfl
@[simp] theorem State.raiseProgramme_lookup : (s.raiseProgramme).lookup = s.lookup := rfl
@[simp] theorem State.raiseProgramme_clock : (s.raiseProgramme).clock = s.clock := rfl
@[simp] theorem State.raiseProgramme_profiles : (s.raiseProgramme).profiles = s.profiles := rfl
@[simp] theorem State.raiseProgramme_exceptions : (s.raiseProgramme).exceptions = s.exceptions := rfl
@[simp] theorem State.raiseProgramme_planner : (s.raiseProgramme).planner = s.planner := rfl
@[simp] theorem State.raiseProgramme_channels : (s.raiseProgramme).channels = s.channels := rfl
@[simp] theorem State.raiseProgramme_answerTime : (s.raiseProgramme).answerTime = s.answerTime := rfl
@[simp] theorem State.raiseProgramme_link : (s.raiseProgramme).link = s.link := rfl
@[simp] theorem State.raiseProgramme_pendingHalt : (s.raiseProgramme).pendingHalt = s.pendingHalt := rfl
@[simp] theorem State.raiseProgramme_programme : (s.raiseProgramme).programme = s.programme := rfl
@[simp] theorem State.raiseProgramme_port : (s.raiseProgramme).port = s.port := rfl
@[simp] theorem State.raiseProgramme_line : (s.raiseProgramme).line = s.line := rfl
@[simp] theorem State.raiseProgramme_pending : (s.raiseProgramme).pending = s.pending := rfl

/-! ### State.raiseMainsChange -/

@[simp] theorem State.raiseMainsChange_luminaires (g : Nat) : (s.raiseMainsChange g).luminaires = s.luminaires := rfl
@[simp] theorem State.raiseMainsChange_classes (g : Nat) : (s.raiseMainsChange g).classes = s.classes := rfl
@[simp] theorem State.raiseMainsChange_zones (g : Nat) : (s.raiseMainsChange g).zones = s.zones := rfl
@[simp] theorem State.raiseMainsChange_segments (g : Nat) : (s.raiseMainsChange g).segments = s.segments := rfl
@[simp] theorem State.raiseMainsChange_lookup (g : Nat) : (s.raiseMainsChange g).lookup = s.lookup := rfl
@[simp] theorem State.raiseMainsChange_clock (g : Nat) : (s.raiseMainsChange g).clock = s.clock := rfl
@[simp] theorem State.raiseMainsChange_profiles (g : Nat) : (s.raiseMainsChange g).profiles = s.profiles := rfl
@[simp] theorem State.raiseMainsChange_exceptions (g : Nat) : (s.raiseMainsChange g).exceptions = s.exceptions := rfl
@[simp] theorem State.raiseMainsChange_planner (g : Nat) : (s.raiseMainsChange g).planner = s.planner := rfl
@[simp] theorem State.raiseMainsChange_channels (g : Nat) : (s.raiseMainsChange g).channels = s.channels := rfl
@[simp] theorem State.raiseMainsChange_answerTime (g : Nat) : (s.raiseMainsChange g).answerTime = s.answerTime := rfl
@[simp] theorem State.raiseMainsChange_link (g : Nat) : (s.raiseMainsChange g).link = s.link := rfl
@[simp] theorem State.raiseMainsChange_pendingHalt (g : Nat) : (s.raiseMainsChange g).pendingHalt = s.pendingHalt := rfl
@[simp] theorem State.raiseMainsChange_programme (g : Nat) : (s.raiseMainsChange g).programme = s.programme := rfl
@[simp] theorem State.raiseMainsChange_port (g : Nat) : (s.raiseMainsChange g).port = s.port := rfl
@[simp] theorem State.raiseMainsChange_line (g : Nat) : (s.raiseMainsChange g).line = s.line := rfl
@[simp] theorem State.raiseMainsChange_pending (g : Nat) : (s.raiseMainsChange g).pending = s.pending := rfl

/-! ### State.setOverdue -/

@[simp] theorem State.setOverdue_luminaires (n : Nat) : (s.setOverdue n).luminaires = s.luminaires := rfl
@[simp] theorem State.setOverdue_classes (n : Nat) : (s.setOverdue n).classes = s.classes := rfl
@[simp] theorem State.setOverdue_zones (n : Nat) : (s.setOverdue n).zones = s.zones := rfl
@[simp] theorem State.setOverdue_segments (n : Nat) : (s.setOverdue n).segments = s.segments := rfl
@[simp] theorem State.setOverdue_lookup (n : Nat) : (s.setOverdue n).lookup = s.lookup := rfl
@[simp] theorem State.setOverdue_clock (n : Nat) : (s.setOverdue n).clock = s.clock := rfl
@[simp] theorem State.setOverdue_profiles (n : Nat) : (s.setOverdue n).profiles = s.profiles := rfl
@[simp] theorem State.setOverdue_exceptions (n : Nat) : (s.setOverdue n).exceptions = s.exceptions := rfl
@[simp] theorem State.setOverdue_planner (n : Nat) : (s.setOverdue n).planner = s.planner := rfl
@[simp] theorem State.setOverdue_channels (n : Nat) : (s.setOverdue n).channels = s.channels := rfl
@[simp] theorem State.setOverdue_answerTime (n : Nat) : (s.setOverdue n).answerTime = s.answerTime := rfl
@[simp] theorem State.setOverdue_link (n : Nat) : (s.setOverdue n).link = s.link := rfl
@[simp] theorem State.setOverdue_pendingHalt (n : Nat) : (s.setOverdue n).pendingHalt = s.pendingHalt := rfl
@[simp] theorem State.setOverdue_programme (n : Nat) : (s.setOverdue n).programme = s.programme := rfl
@[simp] theorem State.setOverdue_port (n : Nat) : (s.setOverdue n).port = s.port := rfl
@[simp] theorem State.setOverdue_line (n : Nat) : (s.setOverdue n).line = s.line := rfl
@[simp] theorem State.setOverdue_pending (n : Nat) : (s.setOverdue n).pending = s.pending := rfl

/-! ### State.transition -/

@[simp] theorem State.transition_classes (i : Nat) (a b : Record) : (s.transition i a b).classes = s.classes := rfl
@[simp] theorem State.transition_segments (i : Nat) (a b : Record) : (s.transition i a b).segments = s.segments := rfl
@[simp] theorem State.transition_lookup (i : Nat) (a b : Record) : (s.transition i a b).lookup = s.lookup := rfl
@[simp] theorem State.transition_clock (i : Nat) (a b : Record) : (s.transition i a b).clock = s.clock := rfl
@[simp] theorem State.transition_profiles (i : Nat) (a b : Record) : (s.transition i a b).profiles = s.profiles := rfl
@[simp] theorem State.transition_exceptions (i : Nat) (a b : Record) : (s.transition i a b).exceptions = s.exceptions := rfl
@[simp] theorem State.transition_planner (i : Nat) (a b : Record) : (s.transition i a b).planner = s.planner := rfl
@[simp] theorem State.transition_channels (i : Nat) (a b : Record) : (s.transition i a b).channels = s.channels := rfl
@[simp] theorem State.transition_answerTime (i : Nat) (a b : Record) : (s.transition i a b).answerTime = s.answerTime := rfl
@[simp] theorem State.transition_link (i : Nat) (a b : Record) : (s.transition i a b).link = s.link := rfl
@[simp] theorem State.transition_pendingHalt (i : Nat) (a b : Record) : (s.transition i a b).pendingHalt = s.pendingHalt := rfl
@[simp] theorem State.transition_programme (i : Nat) (a b : Record) : (s.transition i a b).programme = s.programme := rfl
@[simp] theorem State.transition_port (i : Nat) (a b : Record) : (s.transition i a b).port = s.port := rfl
@[simp] theorem State.transition_attention (i : Nat) (a b : Record) : (s.transition i a b).attention = s.attention := rfl
@[simp] theorem State.transition_line (i : Nat) (a b : Record) : (s.transition i a b).line = s.line := rfl
@[simp] theorem State.transition_pending (i : Nat) (a b : Record) : (s.transition i a b).pending = s.pending := rfl

/-! ### State.joinZone -/

@[simp] theorem State.joinZone_luminaires (z : Nat) (st : RecordState) : (s.joinZone z st).luminaires = s.luminaires := rfl
@[simp] theorem State.joinZone_classes (z : Nat) (st : RecordState) : (s.joinZone z st).classes = s.classes := rfl
@[simp] theorem State.joinZone_segments (z : Nat) (st : RecordState) : (s.joinZone z st).segments = s.segments := rfl
@[simp] theorem State.joinZone_lookup (z : Nat) (st : RecordState) : (s.joinZone z st).lookup = s.lookup := rfl
@[simp] theorem State.joinZone_clock (z : Nat) (st : RecordState) : (s.joinZone z st).clock = s.clock := rfl
@[simp] theorem State.joinZone_profiles (z : Nat) (st : RecordState) : (s.joinZone z st).profiles = s.profiles := rfl
@[simp] theorem State.joinZone_exceptions (z : Nat) (st : RecordState) : (s.joinZone z st).exceptions = s.exceptions := rfl
@[simp] theorem State.joinZone_planner (z : Nat) (st : RecordState) : (s.joinZone z st).planner = s.planner := rfl
@[simp] theorem State.joinZone_channels (z : Nat) (st : RecordState) : (s.joinZone z st).channels = s.channels := rfl
@[simp] theorem State.joinZone_answerTime (z : Nat) (st : RecordState) : (s.joinZone z st).answerTime = s.answerTime := rfl
@[simp] theorem State.joinZone_link (z : Nat) (st : RecordState) : (s.joinZone z st).link = s.link := rfl
@[simp] theorem State.joinZone_pendingHalt (z : Nat) (st : RecordState) : (s.joinZone z st).pendingHalt = s.pendingHalt := rfl
@[simp] theorem State.joinZone_programme (z : Nat) (st : RecordState) : (s.joinZone z st).programme = s.programme := rfl
@[simp] theorem State.joinZone_port (z : Nat) (st : RecordState) : (s.joinZone z st).port = s.port := rfl
@[simp] theorem State.joinZone_attention (z : Nat) (st : RecordState) : (s.joinZone z st).attention = s.attention := rfl
@[simp] theorem State.joinZone_line (z : Nat) (st : RecordState) : (s.joinZone z st).line = s.line := rfl
@[simp] theorem State.joinZone_pending (z : Nat) (st : RecordState) : (s.joinZone z st).pending = s.pending := rfl

/-! ### State.leaveZone -/

@[simp] theorem State.leaveZone_luminaires (z : Nat) (st : RecordState) : (s.leaveZone z st).luminaires = s.luminaires := rfl
@[simp] theorem State.leaveZone_classes (z : Nat) (st : RecordState) : (s.leaveZone z st).classes = s.classes := rfl
@[simp] theorem State.leaveZone_segments (z : Nat) (st : RecordState) : (s.leaveZone z st).segments = s.segments := rfl
@[simp] theorem State.leaveZone_lookup (z : Nat) (st : RecordState) : (s.leaveZone z st).lookup = s.lookup := rfl
@[simp] theorem State.leaveZone_clock (z : Nat) (st : RecordState) : (s.leaveZone z st).clock = s.clock := rfl
@[simp] theorem State.leaveZone_profiles (z : Nat) (st : RecordState) : (s.leaveZone z st).profiles = s.profiles := rfl
@[simp] theorem State.leaveZone_exceptions (z : Nat) (st : RecordState) : (s.leaveZone z st).exceptions = s.exceptions := rfl
@[simp] theorem State.leaveZone_planner (z : Nat) (st : RecordState) : (s.leaveZone z st).planner = s.planner := rfl
@[simp] theorem State.leaveZone_channels (z : Nat) (st : RecordState) : (s.leaveZone z st).channels = s.channels := rfl
@[simp] theorem State.leaveZone_answerTime (z : Nat) (st : RecordState) : (s.leaveZone z st).answerTime = s.answerTime := rfl
@[simp] theorem State.leaveZone_link (z : Nat) (st : RecordState) : (s.leaveZone z st).link = s.link := rfl
@[simp] theorem State.leaveZone_pendingHalt (z : Nat) (st : RecordState) : (s.leaveZone z st).pendingHalt = s.pendingHalt := rfl
@[simp] theorem State.leaveZone_programme (z : Nat) (st : RecordState) : (s.leaveZone z st).programme = s.programme := rfl
@[simp] theorem State.leaveZone_port (z : Nat) (st : RecordState) : (s.leaveZone z st).port = s.port := rfl
@[simp] theorem State.leaveZone_attention (z : Nat) (st : RecordState) : (s.leaveZone z st).attention = s.attention := rfl
@[simp] theorem State.leaveZone_line (z : Nat) (st : RecordState) : (s.leaveZone z st).line = s.line := rfl
@[simp] theorem State.leaveZone_pending (z : Nat) (st : RecordState) : (s.leaveZone z st).pending = s.pending := rfl

/-! ### State.joinClass -/

@[simp] theorem State.joinClass_luminaires (c : Nat) : (s.joinClass c).luminaires = s.luminaires := rfl
@[simp] theorem State.joinClass_zones (c : Nat) : (s.joinClass c).zones = s.zones := rfl
@[simp] theorem State.joinClass_segments (c : Nat) : (s.joinClass c).segments = s.segments := rfl
@[simp] theorem State.joinClass_lookup (c : Nat) : (s.joinClass c).lookup = s.lookup := rfl
@[simp] theorem State.joinClass_clock (c : Nat) : (s.joinClass c).clock = s.clock := rfl
@[simp] theorem State.joinClass_profiles (c : Nat) : (s.joinClass c).profiles = s.profiles := rfl
@[simp] theorem State.joinClass_exceptions (c : Nat) : (s.joinClass c).exceptions = s.exceptions := rfl
@[simp] theorem State.joinClass_planner (c : Nat) : (s.joinClass c).planner = s.planner := rfl
@[simp] theorem State.joinClass_channels (c : Nat) : (s.joinClass c).channels = s.channels := rfl
@[simp] theorem State.joinClass_answerTime (c : Nat) : (s.joinClass c).answerTime = s.answerTime := rfl
@[simp] theorem State.joinClass_link (c : Nat) : (s.joinClass c).link = s.link := rfl
@[simp] theorem State.joinClass_pendingHalt (c : Nat) : (s.joinClass c).pendingHalt = s.pendingHalt := rfl
@[simp] theorem State.joinClass_programme (c : Nat) : (s.joinClass c).programme = s.programme := rfl
@[simp] theorem State.joinClass_port (c : Nat) : (s.joinClass c).port = s.port := rfl
@[simp] theorem State.joinClass_attention (c : Nat) : (s.joinClass c).attention = s.attention := rfl
@[simp] theorem State.joinClass_line (c : Nat) : (s.joinClass c).line = s.line := rfl
@[simp] theorem State.joinClass_pending (c : Nat) : (s.joinClass c).pending = s.pending := rfl

/-! ### State.leaveClass -/

@[simp] theorem State.leaveClass_luminaires (c : Nat) : (s.leaveClass c).luminaires = s.luminaires := rfl
@[simp] theorem State.leaveClass_zones (c : Nat) : (s.leaveClass c).zones = s.zones := rfl
@[simp] theorem State.leaveClass_segments (c : Nat) : (s.leaveClass c).segments = s.segments := rfl
@[simp] theorem State.leaveClass_lookup (c : Nat) : (s.leaveClass c).lookup = s.lookup := rfl
@[simp] theorem State.leaveClass_clock (c : Nat) : (s.leaveClass c).clock = s.clock := rfl
@[simp] theorem State.leaveClass_profiles (c : Nat) : (s.leaveClass c).profiles = s.profiles := rfl
@[simp] theorem State.leaveClass_exceptions (c : Nat) : (s.leaveClass c).exceptions = s.exceptions := rfl
@[simp] theorem State.leaveClass_planner (c : Nat) : (s.leaveClass c).planner = s.planner := rfl
@[simp] theorem State.leaveClass_channels (c : Nat) : (s.leaveClass c).channels = s.channels := rfl
@[simp] theorem State.leaveClass_answerTime (c : Nat) : (s.leaveClass c).answerTime = s.answerTime := rfl
@[simp] theorem State.leaveClass_link (c : Nat) : (s.leaveClass c).link = s.link := rfl
@[simp] theorem State.leaveClass_pendingHalt (c : Nat) : (s.leaveClass c).pendingHalt = s.pendingHalt := rfl
@[simp] theorem State.leaveClass_programme (c : Nat) : (s.leaveClass c).programme = s.programme := rfl
@[simp] theorem State.leaveClass_port (c : Nat) : (s.leaveClass c).port = s.port := rfl
@[simp] theorem State.leaveClass_attention (c : Nat) : (s.leaveClass c).attention = s.attention := rfl
@[simp] theorem State.leaveClass_line (c : Nat) : (s.leaveClass c).line = s.line := rfl
@[simp] theorem State.leaveClass_pending (c : Nat) : (s.leaveClass c).pending = s.pending := rfl

/-! ### State.raiseActive -/

@[simp] theorem State.raiseActive_luminaires (g : Nat) : (s.raiseActive g).luminaires = s.luminaires := rfl
@[simp] theorem State.raiseActive_classes (g : Nat) : (s.raiseActive g).classes = s.classes := rfl
@[simp] theorem State.raiseActive_zones (g : Nat) : (s.raiseActive g).zones = s.zones := rfl
@[simp] theorem State.raiseActive_lookup (g : Nat) : (s.raiseActive g).lookup = s.lookup := rfl
@[simp] theorem State.raiseActive_clock (g : Nat) : (s.raiseActive g).clock = s.clock := rfl
@[simp] theorem State.raiseActive_profiles (g : Nat) : (s.raiseActive g).profiles = s.profiles := rfl
@[simp] theorem State.raiseActive_exceptions (g : Nat) : (s.raiseActive g).exceptions = s.exceptions := rfl
@[simp] theorem State.raiseActive_planner (g : Nat) : (s.raiseActive g).planner = s.planner := rfl
@[simp] theorem State.raiseActive_channels (g : Nat) : (s.raiseActive g).channels = s.channels := rfl
@[simp] theorem State.raiseActive_answerTime (g : Nat) : (s.raiseActive g).answerTime = s.answerTime := rfl
@[simp] theorem State.raiseActive_link (g : Nat) : (s.raiseActive g).link = s.link := rfl
@[simp] theorem State.raiseActive_pendingHalt (g : Nat) : (s.raiseActive g).pendingHalt = s.pendingHalt := rfl
@[simp] theorem State.raiseActive_programme (g : Nat) : (s.raiseActive g).programme = s.programme := rfl
@[simp] theorem State.raiseActive_port (g : Nat) : (s.raiseActive g).port = s.port := rfl
@[simp] theorem State.raiseActive_attention (g : Nat) : (s.raiseActive g).attention = s.attention := rfl
@[simp] theorem State.raiseActive_line (g : Nat) : (s.raiseActive g).line = s.line := rfl
@[simp] theorem State.raiseActive_pending (g : Nat) : (s.raiseActive g).pending = s.pending := rfl

/-! ### State.lowerActive -/

@[simp] theorem State.lowerActive_luminaires (g : Nat) : (s.lowerActive g).luminaires = s.luminaires := rfl
@[simp] theorem State.lowerActive_classes (g : Nat) : (s.lowerActive g).classes = s.classes := rfl
@[simp] theorem State.lowerActive_zones (g : Nat) : (s.lowerActive g).zones = s.zones := rfl
@[simp] theorem State.lowerActive_lookup (g : Nat) : (s.lowerActive g).lookup = s.lookup := rfl
@[simp] theorem State.lowerActive_clock (g : Nat) : (s.lowerActive g).clock = s.clock := rfl
@[simp] theorem State.lowerActive_profiles (g : Nat) : (s.lowerActive g).profiles = s.profiles := rfl
@[simp] theorem State.lowerActive_exceptions (g : Nat) : (s.lowerActive g).exceptions = s.exceptions := rfl
@[simp] theorem State.lowerActive_planner (g : Nat) : (s.lowerActive g).planner = s.planner := rfl
@[simp] theorem State.lowerActive_channels (g : Nat) : (s.lowerActive g).channels = s.channels := rfl
@[simp] theorem State.lowerActive_answerTime (g : Nat) : (s.lowerActive g).answerTime = s.answerTime := rfl
@[simp] theorem State.lowerActive_link (g : Nat) : (s.lowerActive g).link = s.link := rfl
@[simp] theorem State.lowerActive_pendingHalt (g : Nat) : (s.lowerActive g).pendingHalt = s.pendingHalt := rfl
@[simp] theorem State.lowerActive_programme (g : Nat) : (s.lowerActive g).programme = s.programme := rfl
@[simp] theorem State.lowerActive_port (g : Nat) : (s.lowerActive g).port = s.port := rfl
@[simp] theorem State.lowerActive_attention (g : Nat) : (s.lowerActive g).attention = s.attention := rfl
@[simp] theorem State.lowerActive_line (g : Nat) : (s.lowerActive g).line = s.line := rfl
@[simp] theorem State.lowerActive_pending (g : Nat) : (s.lowerActive g).pending = s.pending := rfl

/-! ### State.writeOrder -/

@[simp] theorem State.writeOrder_luminaires (o : Order) : (s.writeOrder o).luminaires = s.luminaires := rfl
@[simp] theorem State.writeOrder_classes (o : Order) : (s.writeOrder o).classes = s.classes := rfl
@[simp] theorem State.writeOrder_zones (o : Order) : (s.writeOrder o).zones = s.zones := rfl
@[simp] theorem State.writeOrder_segments (o : Order) : (s.writeOrder o).segments = s.segments := rfl
@[simp] theorem State.writeOrder_lookup (o : Order) : (s.writeOrder o).lookup = s.lookup := rfl
@[simp] theorem State.writeOrder_clock (o : Order) : (s.writeOrder o).clock = s.clock := rfl
@[simp] theorem State.writeOrder_profiles (o : Order) : (s.writeOrder o).profiles = s.profiles := rfl
@[simp] theorem State.writeOrder_exceptions (o : Order) : (s.writeOrder o).exceptions = s.exceptions := rfl
@[simp] theorem State.writeOrder_planner (o : Order) : (s.writeOrder o).planner = s.planner := rfl
@[simp] theorem State.writeOrder_channels (o : Order) : (s.writeOrder o).channels = s.channels := rfl
@[simp] theorem State.writeOrder_answerTime (o : Order) : (s.writeOrder o).answerTime = s.answerTime := rfl
@[simp] theorem State.writeOrder_pendingHalt (o : Order) : (s.writeOrder o).pendingHalt = s.pendingHalt := rfl
@[simp] theorem State.writeOrder_programme (o : Order) : (s.writeOrder o).programme = s.programme := rfl
@[simp] theorem State.writeOrder_port (o : Order) : (s.writeOrder o).port = s.port := rfl
@[simp] theorem State.writeOrder_attention (o : Order) : (s.writeOrder o).attention = s.attention := rfl
@[simp] theorem State.writeOrder_line (o : Order) : (s.writeOrder o).line = s.line := rfl
@[simp] theorem State.writeOrder_pending (o : Order) : (s.writeOrder o).pending = s.pending := rfl

/-! ### State.withdraw -/

@[simp] theorem State.withdraw_luminaires (k g : Nat) : (s.withdraw k g).luminaires = s.luminaires := rfl
@[simp] theorem State.withdraw_classes (k g : Nat) : (s.withdraw k g).classes = s.classes := rfl
@[simp] theorem State.withdraw_zones (k g : Nat) : (s.withdraw k g).zones = s.zones := rfl
@[simp] theorem State.withdraw_segments (k g : Nat) : (s.withdraw k g).segments = s.segments := rfl
@[simp] theorem State.withdraw_lookup (k g : Nat) : (s.withdraw k g).lookup = s.lookup := rfl
@[simp] theorem State.withdraw_clock (k g : Nat) : (s.withdraw k g).clock = s.clock := rfl
@[simp] theorem State.withdraw_profiles (k g : Nat) : (s.withdraw k g).profiles = s.profiles := rfl
@[simp] theorem State.withdraw_exceptions (k g : Nat) : (s.withdraw k g).exceptions = s.exceptions := rfl
@[simp] theorem State.withdraw_planner (k g : Nat) : (s.withdraw k g).planner = s.planner := rfl
@[simp] theorem State.withdraw_channels (k g : Nat) : (s.withdraw k g).channels = s.channels := rfl
@[simp] theorem State.withdraw_answerTime (k g : Nat) : (s.withdraw k g).answerTime = s.answerTime := rfl
@[simp] theorem State.withdraw_pendingHalt (k g : Nat) : (s.withdraw k g).pendingHalt = s.pendingHalt := rfl
@[simp] theorem State.withdraw_programme (k g : Nat) : (s.withdraw k g).programme = s.programme := rfl
@[simp] theorem State.withdraw_port (k g : Nat) : (s.withdraw k g).port = s.port := rfl
@[simp] theorem State.withdraw_attention (k g : Nat) : (s.withdraw k g).attention = s.attention := rfl
@[simp] theorem State.withdraw_line (k g : Nat) : (s.withdraw k g).line = s.line := rfl
@[simp] theorem State.withdraw_pending (k g : Nat) : (s.withdraw k g).pending = s.pending := rfl

/-! ### State.dropHead -/

@[simp] theorem State.dropHead_luminaires : (s.dropHead).luminaires = s.luminaires := rfl
@[simp] theorem State.dropHead_classes : (s.dropHead).classes = s.classes := rfl
@[simp] theorem State.dropHead_zones : (s.dropHead).zones = s.zones := rfl
@[simp] theorem State.dropHead_segments : (s.dropHead).segments = s.segments := rfl
@[simp] theorem State.dropHead_lookup : (s.dropHead).lookup = s.lookup := rfl
@[simp] theorem State.dropHead_clock : (s.dropHead).clock = s.clock := rfl
@[simp] theorem State.dropHead_profiles : (s.dropHead).profiles = s.profiles := rfl
@[simp] theorem State.dropHead_exceptions : (s.dropHead).exceptions = s.exceptions := rfl
@[simp] theorem State.dropHead_planner : (s.dropHead).planner = s.planner := rfl
@[simp] theorem State.dropHead_channels : (s.dropHead).channels = s.channels := rfl
@[simp] theorem State.dropHead_answerTime : (s.dropHead).answerTime = s.answerTime := rfl
@[simp] theorem State.dropHead_pendingHalt : (s.dropHead).pendingHalt = s.pendingHalt := rfl
@[simp] theorem State.dropHead_programme : (s.dropHead).programme = s.programme := rfl
@[simp] theorem State.dropHead_port : (s.dropHead).port = s.port := rfl
@[simp] theorem State.dropHead_attention : (s.dropHead).attention = s.attention := rfl
@[simp] theorem State.dropHead_line : (s.dropHead).line = s.line := rfl
@[simp] theorem State.dropHead_pending : (s.dropHead).pending = s.pending := rfl

/-! ### State.startPass -/

@[simp] theorem State.startPass_luminaires : (s.startPass).luminaires = s.luminaires := rfl
@[simp] theorem State.startPass_classes : (s.startPass).classes = s.classes := rfl
@[simp] theorem State.startPass_zones : (s.startPass).zones = s.zones := rfl
@[simp] theorem State.startPass_segments : (s.startPass).segments = s.segments := rfl
@[simp] theorem State.startPass_lookup : (s.startPass).lookup = s.lookup := rfl
@[simp] theorem State.startPass_clock : (s.startPass).clock = s.clock := rfl
@[simp] theorem State.startPass_profiles : (s.startPass).profiles = s.profiles := rfl
@[simp] theorem State.startPass_exceptions : (s.startPass).exceptions = s.exceptions := rfl
@[simp] theorem State.startPass_channels : (s.startPass).channels = s.channels := rfl
@[simp] theorem State.startPass_answerTime : (s.startPass).answerTime = s.answerTime := rfl
@[simp] theorem State.startPass_link : (s.startPass).link = s.link := rfl
@[simp] theorem State.startPass_pendingHalt : (s.startPass).pendingHalt = s.pendingHalt := rfl
@[simp] theorem State.startPass_programme : (s.startPass).programme = s.programme := rfl
@[simp] theorem State.startPass_port : (s.startPass).port = s.port := rfl
@[simp] theorem State.startPass_attention : (s.startPass).attention = s.attention := rfl
@[simp] theorem State.startPass_line : (s.startPass).line = s.line := rfl
@[simp] theorem State.startPass_pending : (s.startPass).pending = s.pending := rfl

/-! ### State.endPhase -/

@[simp] theorem State.endPhase_luminaires : (s.endPhase).luminaires = s.luminaires := rfl
@[simp] theorem State.endPhase_classes : (s.endPhase).classes = s.classes := rfl
@[simp] theorem State.endPhase_zones : (s.endPhase).zones = s.zones := rfl
@[simp] theorem State.endPhase_segments : (s.endPhase).segments = s.segments := rfl
@[simp] theorem State.endPhase_lookup : (s.endPhase).lookup = s.lookup := rfl
@[simp] theorem State.endPhase_clock : (s.endPhase).clock = s.clock := rfl
@[simp] theorem State.endPhase_profiles : (s.endPhase).profiles = s.profiles := rfl
@[simp] theorem State.endPhase_exceptions : (s.endPhase).exceptions = s.exceptions := rfl
@[simp] theorem State.endPhase_channels : (s.endPhase).channels = s.channels := rfl
@[simp] theorem State.endPhase_answerTime : (s.endPhase).answerTime = s.answerTime := rfl
@[simp] theorem State.endPhase_link : (s.endPhase).link = s.link := rfl
@[simp] theorem State.endPhase_pendingHalt : (s.endPhase).pendingHalt = s.pendingHalt := rfl
@[simp] theorem State.endPhase_programme : (s.endPhase).programme = s.programme := rfl
@[simp] theorem State.endPhase_port : (s.endPhase).port = s.port := rfl
@[simp] theorem State.endPhase_attention : (s.endPhase).attention = s.attention := rfl
@[simp] theorem State.endPhase_line : (s.endPhase).line = s.line := rfl
@[simp] theorem State.endPhase_pending : (s.endPhase).pending = s.pending := rfl

/-! ### State.expireExceptions -/

@[simp] theorem State.expireExceptions_luminaires (v : Nat) : (s.expireExceptions v).luminaires = s.luminaires := rfl
@[simp] theorem State.expireExceptions_classes (v : Nat) : (s.expireExceptions v).classes = s.classes := rfl
@[simp] theorem State.expireExceptions_zones (v : Nat) : (s.expireExceptions v).zones = s.zones := rfl
@[simp] theorem State.expireExceptions_segments (v : Nat) : (s.expireExceptions v).segments = s.segments := rfl
@[simp] theorem State.expireExceptions_lookup (v : Nat) : (s.expireExceptions v).lookup = s.lookup := rfl
@[simp] theorem State.expireExceptions_clock (v : Nat) : (s.expireExceptions v).clock = s.clock := rfl
@[simp] theorem State.expireExceptions_profiles (v : Nat) : (s.expireExceptions v).profiles = s.profiles := rfl
@[simp] theorem State.expireExceptions_planner (v : Nat) : (s.expireExceptions v).planner = s.planner := rfl
@[simp] theorem State.expireExceptions_channels (v : Nat) : (s.expireExceptions v).channels = s.channels := rfl
@[simp] theorem State.expireExceptions_answerTime (v : Nat) : (s.expireExceptions v).answerTime = s.answerTime := rfl
@[simp] theorem State.expireExceptions_link (v : Nat) : (s.expireExceptions v).link = s.link := rfl
@[simp] theorem State.expireExceptions_pendingHalt (v : Nat) : (s.expireExceptions v).pendingHalt = s.pendingHalt := rfl
@[simp] theorem State.expireExceptions_programme (v : Nat) : (s.expireExceptions v).programme = s.programme := rfl
@[simp] theorem State.expireExceptions_port (v : Nat) : (s.expireExceptions v).port = s.port := rfl
@[simp] theorem State.expireExceptions_attention (v : Nat) : (s.expireExceptions v).attention = s.attention := rfl
@[simp] theorem State.expireExceptions_line (v : Nat) : (s.expireExceptions v).line = s.line := rfl
@[simp] theorem State.expireExceptions_pending (v : Nat) : (s.expireExceptions v).pending = s.pending := rfl

/-! ### State.tickChannels -/

@[simp] theorem State.tickChannels_luminaires : (s.tickChannels).luminaires = s.luminaires := rfl
@[simp] theorem State.tickChannels_classes : (s.tickChannels).classes = s.classes := rfl
@[simp] theorem State.tickChannels_zones : (s.tickChannels).zones = s.zones := rfl
@[simp] theorem State.tickChannels_segments : (s.tickChannels).segments = s.segments := rfl
@[simp] theorem State.tickChannels_lookup : (s.tickChannels).lookup = s.lookup := rfl
@[simp] theorem State.tickChannels_clock : (s.tickChannels).clock = s.clock := rfl
@[simp] theorem State.tickChannels_profiles : (s.tickChannels).profiles = s.profiles := rfl
@[simp] theorem State.tickChannels_exceptions : (s.tickChannels).exceptions = s.exceptions := rfl
@[simp] theorem State.tickChannels_planner : (s.tickChannels).planner = s.planner := rfl
@[simp] theorem State.tickChannels_answerTime : (s.tickChannels).answerTime = s.answerTime := rfl
@[simp] theorem State.tickChannels_link : (s.tickChannels).link = s.link := rfl
@[simp] theorem State.tickChannels_pendingHalt : (s.tickChannels).pendingHalt = s.pendingHalt := rfl
@[simp] theorem State.tickChannels_programme : (s.tickChannels).programme = s.programme := rfl
@[simp] theorem State.tickChannels_port : (s.tickChannels).port = s.port := rfl
@[simp] theorem State.tickChannels_attention : (s.tickChannels).attention = s.attention := rfl
@[simp] theorem State.tickChannels_line : (s.tickChannels).line = s.line := rfl
@[simp] theorem State.tickChannels_pending : (s.tickChannels).pending = s.pending := rfl

/-! ### State.finish -/

@[simp] theorem State.finish_luminaires (r : Result) : (s.finish r).luminaires = s.luminaires := rfl
@[simp] theorem State.finish_classes (r : Result) : (s.finish r).classes = s.classes := rfl
@[simp] theorem State.finish_zones (r : Result) : (s.finish r).zones = s.zones := rfl
@[simp] theorem State.finish_segments (r : Result) : (s.finish r).segments = s.segments := rfl
@[simp] theorem State.finish_lookup (r : Result) : (s.finish r).lookup = s.lookup := rfl
@[simp] theorem State.finish_clock (r : Result) : (s.finish r).clock = s.clock := rfl
@[simp] theorem State.finish_profiles (r : Result) : (s.finish r).profiles = s.profiles := rfl
@[simp] theorem State.finish_exceptions (r : Result) : (s.finish r).exceptions = s.exceptions := rfl
@[simp] theorem State.finish_planner (r : Result) : (s.finish r).planner = s.planner := rfl
@[simp] theorem State.finish_channels (r : Result) : (s.finish r).channels = s.channels := rfl
@[simp] theorem State.finish_answerTime (r : Result) : (s.finish r).answerTime = s.answerTime := rfl
@[simp] theorem State.finish_link (r : Result) : (s.finish r).link = s.link := rfl
@[simp] theorem State.finish_pendingHalt (r : Result) : (s.finish r).pendingHalt = s.pendingHalt := rfl
@[simp] theorem State.finish_programme (r : Result) : (s.finish r).programme = s.programme := rfl
@[simp] theorem State.finish_attention (r : Result) : (s.finish r).attention = s.attention := rfl
@[simp] theorem State.finish_line (r : Result) : (s.finish r).line = s.line := rfl
@[simp] theorem State.finish_pending (r : Result) : (s.finish r).pending = s.pending := rfl

/-! ### State.drop -/

@[simp] theorem State.drop_luminaires : (s.drop).luminaires = s.luminaires := rfl
@[simp] theorem State.drop_classes : (s.drop).classes = s.classes := rfl
@[simp] theorem State.drop_zones : (s.drop).zones = s.zones := rfl
@[simp] theorem State.drop_segments : (s.drop).segments = s.segments := rfl
@[simp] theorem State.drop_lookup : (s.drop).lookup = s.lookup := rfl
@[simp] theorem State.drop_clock : (s.drop).clock = s.clock := rfl
@[simp] theorem State.drop_profiles : (s.drop).profiles = s.profiles := rfl
@[simp] theorem State.drop_exceptions : (s.drop).exceptions = s.exceptions := rfl
@[simp] theorem State.drop_planner : (s.drop).planner = s.planner := rfl
@[simp] theorem State.drop_channels : (s.drop).channels = s.channels := rfl
@[simp] theorem State.drop_answerTime : (s.drop).answerTime = s.answerTime := rfl
@[simp] theorem State.drop_link : (s.drop).link = s.link := rfl
@[simp] theorem State.drop_pendingHalt : (s.drop).pendingHalt = s.pendingHalt := rfl
@[simp] theorem State.drop_programme : (s.drop).programme = s.programme := rfl
@[simp] theorem State.drop_attention : (s.drop).attention = s.attention := rfl
@[simp] theorem State.drop_line : (s.drop).line = s.line := rfl
@[simp] theorem State.drop_pending : (s.drop).pending = s.pending := rfl

/-! ### State.send -/

@[simp] theorem State.send_luminaires (b : List Byte) : (s.send b).luminaires = s.luminaires := rfl
@[simp] theorem State.send_classes (b : List Byte) : (s.send b).classes = s.classes := rfl
@[simp] theorem State.send_zones (b : List Byte) : (s.send b).zones = s.zones := rfl
@[simp] theorem State.send_segments (b : List Byte) : (s.send b).segments = s.segments := rfl
@[simp] theorem State.send_lookup (b : List Byte) : (s.send b).lookup = s.lookup := rfl
@[simp] theorem State.send_clock (b : List Byte) : (s.send b).clock = s.clock := rfl
@[simp] theorem State.send_profiles (b : List Byte) : (s.send b).profiles = s.profiles := rfl
@[simp] theorem State.send_exceptions (b : List Byte) : (s.send b).exceptions = s.exceptions := rfl
@[simp] theorem State.send_planner (b : List Byte) : (s.send b).planner = s.planner := rfl
@[simp] theorem State.send_channels (b : List Byte) : (s.send b).channels = s.channels := rfl
@[simp] theorem State.send_answerTime (b : List Byte) : (s.send b).answerTime = s.answerTime := rfl
@[simp] theorem State.send_link (b : List Byte) : (s.send b).link = s.link := rfl
@[simp] theorem State.send_pendingHalt (b : List Byte) : (s.send b).pendingHalt = s.pendingHalt := rfl
@[simp] theorem State.send_programme (b : List Byte) : (s.send b).programme = s.programme := rfl
@[simp] theorem State.send_attention (b : List Byte) : (s.send b).attention = s.attention := rfl
@[simp] theorem State.send_line (b : List Byte) : (s.send b).line = s.line := rfl
@[simp] theorem State.send_pending (b : List Byte) : (s.send b).pending = s.pending := rfl

/-! ### State.malformed -/

@[simp] theorem State.malformed_luminaires : (s.malformed).luminaires = s.luminaires := rfl
@[simp] theorem State.malformed_classes : (s.malformed).classes = s.classes := rfl
@[simp] theorem State.malformed_zones : (s.malformed).zones = s.zones := rfl
@[simp] theorem State.malformed_segments : (s.malformed).segments = s.segments := rfl
@[simp] theorem State.malformed_lookup : (s.malformed).lookup = s.lookup := rfl
@[simp] theorem State.malformed_clock : (s.malformed).clock = s.clock := rfl
@[simp] theorem State.malformed_profiles : (s.malformed).profiles = s.profiles := rfl
@[simp] theorem State.malformed_exceptions : (s.malformed).exceptions = s.exceptions := rfl
@[simp] theorem State.malformed_planner : (s.malformed).planner = s.planner := rfl
@[simp] theorem State.malformed_channels : (s.malformed).channels = s.channels := rfl
@[simp] theorem State.malformed_answerTime : (s.malformed).answerTime = s.answerTime := rfl
@[simp] theorem State.malformed_link : (s.malformed).link = s.link := rfl
@[simp] theorem State.malformed_pendingHalt : (s.malformed).pendingHalt = s.pendingHalt := rfl
@[simp] theorem State.malformed_programme : (s.malformed).programme = s.programme := rfl
@[simp] theorem State.malformed_attention : (s.malformed).attention = s.attention := rfl
@[simp] theorem State.malformed_line : (s.malformed).line = s.line := rfl
@[simp] theorem State.malformed_pending : (s.malformed).pending = s.pending := rfl

/-! ### What the accessors read -/

@[simp] theorem State.setRecord_record?_self (i : Nat) (r : Record) : (s.setRecord i r).record? i = some r :=
  Table.at?_store_self ..

theorem State.setRecord_record? (i : Nat) (r : Record) (j : Nat) :
    (s.setRecord i r).record? j = if i = j then some r else s.record? j := Table.at?_store ..

@[simp] theorem State.dropRecord_record?_self (i : Nat) : (s.dropRecord i).record? i = none := Table.at?_remove_self ..

theorem State.dropRecord_record? (i j : Nat) :
    (s.dropRecord i).record? j = if i = j then none else s.record? j := Table.at?_remove ..

@[simp] theorem State.setClass_classAt_self (c : Nat) (e : ClassEntry) : (s.setClass c e).classAt c = e :=
  Table.atD_put_self ..

theorem State.setClass_classAt (c : Nat) (e : ClassEntry) (d : Nat) :
    (s.setClass c e).classAt d = if c = d then e else s.classAt d := Table.atD_put ..

@[simp] theorem State.setZone_zoneAt_self (z : Nat) (e : Zone) : (s.setZone z e).zoneAt z = e := Table.atD_put_self ..

theorem State.setZone_zoneAt (z : Nat) (e : Zone) (y : Nat) :
    (s.setZone z e).zoneAt y = if z = y then e else s.zoneAt y := Table.atD_put ..

@[simp] theorem State.setSegment_segmentAt_self (g : Nat) (e : Segment) : (s.setSegment g e).segmentAt g = e :=
  Table.atD_put_self ..

theorem State.setSegment_segmentAt (g : Nat) (e : Segment) (h : Nat) :
    (s.setSegment g e).segmentAt h = if g = h then e else s.segmentAt h := Table.atD_put ..

@[simp] theorem State.setChannel_channelAt_self (k : Nat) (c : Channel) : (s.setChannel k c).channelAt k = c :=
  Table.atD_put_self ..

theorem State.setChannel_channelAt (k : Nat) (c : Channel) (j : Nat) :
    (s.setChannel k c).channelAt j = if k = j then c else s.channelAt j := Table.atD_put ..

@[simp] theorem State.setProfile_profileAt_self (p : Nat) (v : Slots) : (s.setProfile p v).profileAt p = v :=
  Table.atD_put_self ..

theorem State.setProfile_profileAt (p : Nat) (v : Slots) (q : Nat) :
    (s.setProfile p v).profileAt q = if p = q then v else s.profileAt q := Table.atD_put ..

theorem Cause.number_injective : Function.Injective Cause.number := by
  intro a b h; cases a <;> cases b <;> simp_all [Cause.number]

@[simp] theorem State.setCause_causeAt_self (c : Cause) (v : CauseState) : (s.setCause c v).causeAt c = v :=
  Table.atD_put_self ..

theorem State.setCause_causeAt (c : Cause) (v : CauseState) (d : Cause) :
    (s.setCause c v).causeAt d = if c = d then v else s.causeAt d := by
  refine (Table.atD_put ..).trans ?_
  by_cases h : c = d
  · simp [h]
  · rw [if_neg (fun e => h (Cause.number_injective e)), if_neg h]; rfl

theorem State.raise_causeAt (c : Cause) (v : Nat) (d : Cause) :
    (s.raise c v).causeAt d =
      if c = d then { s.causeAt c with pending := true, carried := v } else s.causeAt d := s.setCause_causeAt ..

@[simp] theorem State.raise_changeMap (c : Cause) (v : Nat) :
    (s.raise c v).attention.changeMap = s.attention.changeMap := rfl

theorem State.addLocation_locate (g a i h b : Nat) :
    (s.addLocation g a i).locate h b = if locationKey g a = locationKey h b then some i else s.locate h b :=
  Table.at?_store ..

theorem State.removeLocation_locate (g a h b : Nat) :
    (s.removeLocation g a).locate h b = if locationKey g a = locationKey h b then none else s.locate h b :=
  Table.at?_remove ..

/-- Two locations of the part have the same key only when they are the same location. -/
theorem locationKey_inj {g a h b : Nat} (ha : a < 256) (hb : b < 256) :
    locationKey g a = locationKey h b ↔ g = h ∧ a = b := by
  unfold locationKey; omega

@[simp] theorem State.finish_lastResult (r : Result) : (s.finish r).port.lastResult = r := rfl
@[simp] theorem State.finish_inHand (r : Result) : (s.finish r).port.inHand = none := rfl
@[simp] theorem State.finish_dropped (r : Result) : (s.finish r).port.dropped = s.port.dropped := rfl
@[simp] theorem State.finish_turnaround (r : Result) : (s.finish r).port.turnaround = s.port.turnaround := rfl
@[simp] theorem State.finish_walk (r : Result) : (s.finish r).port.walk = s.port.walk := rfl
@[simp] theorem State.finish_statusRead (r : Result) : (s.finish r).port.statusRead = s.port.statusRead := rfl
@[simp] theorem State.finish_output (r : Result) : (s.finish r).port.output = s.port.output := rfl
@[simp] theorem State.send_inHand (l : List Byte) : (s.send l).port.inHand = s.port.inHand := rfl
@[simp] theorem State.send_lastResult (l : List Byte) : (s.send l).port.lastResult = s.port.lastResult := rfl
@[simp] theorem State.send_dropped (l : List Byte) : (s.send l).port.dropped = s.port.dropped := rfl
@[simp] theorem State.send_turnaround (l : List Byte) : (s.send l).port.turnaround = s.port.turnaround := rfl
@[simp] theorem State.send_walk (l : List Byte) : (s.send l).port.walk = s.port.walk := rfl
@[simp] theorem State.send_statusRead (l : List Byte) : (s.send l).port.statusRead = s.port.statusRead := rfl
@[simp] theorem State.send_output (l : List Byte) : (s.send l).port.output = l := rfl
@[simp] theorem State.leaveStatus_inHand : s.leaveStatus.port.inHand = s.port.inHand := rfl
@[simp] theorem State.leaveStatus_lastResult : s.leaveStatus.port.lastResult = s.port.lastResult := rfl
@[simp] theorem State.leaveStatus_dropped : s.leaveStatus.port.dropped = s.port.dropped := rfl
@[simp] theorem State.leaveStatus_turnaround : s.leaveStatus.port.turnaround = s.port.turnaround := rfl
@[simp] theorem State.leaveStatus_walk : s.leaveStatus.port.walk = s.port.walk := rfl
@[simp] theorem State.leaveStatus_statusRead : s.leaveStatus.port.statusRead = false := rfl
@[simp] theorem State.leaveStatus_output : s.leaveStatus.port.output = s.port.output := rfl

/-- An accessor of a table reads the same where the table is the same. -/
theorem State.record?_congr {s t : State} (h : t.luminaires = s.luminaires) (i : Nat) : t.record? i = s.record? i := by
  simp [State.record?, h]

theorem State.zoneAt_congr {s t : State} (h : t.zones = s.zones) (z : Nat) : t.zoneAt z = s.zoneAt z := by
  simp [State.zoneAt, h]

theorem State.classAt_congr {s t : State} (h : t.classes = s.classes) (c : Nat) : t.classAt c = s.classAt c := by
  simp [State.classAt, h]

theorem State.segmentAt_congr {s t : State} (h : t.segments = s.segments) (g : Nat) :
    t.segmentAt g = s.segmentAt g := by
  simp [State.segmentAt, h]

theorem State.channelAt_congr {s t : State} (h : t.channels = s.channels) (k : Nat) :
    t.channelAt k = s.channelAt k := by
  simp [State.channelAt, h]

theorem State.locate_congr {s t : State} (h : t.lookup = s.lookup) (g a : Nat) : t.locate g a = s.locate g a := by
  simp [State.locate, h]

theorem State.profileAt_congr {s t : State} (h : t.profiles = s.profiles) (p : Nat) :
    t.profileAt p = s.profileAt p := by
  simp [State.profileAt, h]

theorem State.causeAt_congr {s t : State} (h : t.attention = s.attention) (c : Cause) : t.causeAt c = s.causeAt c := by
  simp [State.causeAt, h]

end Sys2Proof.Machine
end

