-- ==== Sys2Proof/Laws/Register.lean ====
section
/-! SUPPORT. The register's shared operations: what a link made or broken, a freed record and a transition do, each said
once. -/

namespace Sys2Proof.Machine

/-! ### Links -/

theorem State.linkEnd_frame (s : State) (n i : Nat) :
    s.linkEnd n i = { s with luminaires := (s.linkEnd n i).luminaires } := by
  unfold State.linkEnd; split <;> rfl

theorem State.unlinkEnd_frame (s : State) (n i : Nat) :
    s.unlinkEnd n i = { s with luminaires := (s.unlinkEnd n i).luminaires } := by
  unfold State.unlinkEnd; split <;> rfl

theorem State.linkEnd_record? (s : State) (n i j : Nat) :
    (s.linkEnd n i).record? j
      = if j = n then (s.record? j).map fun r => { r with neighbours := r.neighbours ++ [i] } else s.record? j := by
  unfold State.linkEnd
  split
  · rename_i r h
    rw [State.setRecord_record?]
    by_cases hj : j = n
    · subst hj; simp [h]
    · simp [hj, Ne.symm hj]
  · rename_i h
    by_cases hj : j = n
    · subst hj; simp [h]
    · simp [hj]

theorem State.unlinkEnd_record? (s : State) (n i j : Nat) :
    (s.unlinkEnd n i).record? j
      = if j = n then (s.record? j).map fun r => { r with neighbours := r.neighbours.filter fun m => m != i }
        else s.record? j := by
  unfold State.unlinkEnd
  split
  · rename_i r h
    rw [State.setRecord_record?]
    by_cases hj : j = n
    · subst hj; simp [h]
    · simp [hj, Ne.symm hj]
  · rename_i h
    by_cases hj : j = n
    · subst hj; simp [h]
    · simp [hj]

theorem State.linkAll_cons (s : State) (i n : Nat) (l : List Nat) : s.linkAll i (n :: l) = (s.linkEnd n i).linkAll i l := rfl

theorem State.unlinkAll_cons (s : State) (i n : Nat) (l : List Nat) :
    s.unlinkAll i (n :: l) = (s.unlinkEnd n i).unlinkAll i l := rfl

theorem State.linkAll_frame (s : State) (i : Nat) (l : List Nat) :
    s.linkAll i l = { s with luminaires := (s.linkAll i l).luminaires } := by
  induction l generalizing s with
  | nil => rfl
  | cons n l ih => rw [State.linkAll_cons, ih, State.linkEnd_frame]

theorem State.unlinkAll_frame (s : State) (i : Nat) (l : List Nat) :
    s.unlinkAll i l = { s with luminaires := (s.unlinkAll i l).luminaires } := by
  induction l generalizing s with
  | nil => rfl
  | cons n l ih => rw [State.unlinkAll_cons, ih, State.unlinkEnd_frame]

/-- Making links to distinct neighbours appends the index to each of their lists and changes no other record. -/
theorem State.linkAll_record? (s : State) (i : Nat) {l : List Nat} (hl : l.Nodup) (j : Nat) :
    (s.linkAll i l).record? j
      = if j ∈ l then (s.record? j).map fun r => { r with neighbours := r.neighbours ++ [i] } else s.record? j := by
  induction l generalizing s with
  | nil => simp [State.linkAll]
  | cons n l ih =>
    obtain ⟨hn, hl⟩ := List.nodup_cons.mp hl
    rw [State.linkAll_cons, ih _ hl, State.linkEnd_record?]
    by_cases hj : j = n
    · subst hj; simp [hn]
    · simp [hj]

/-- Breaking links removes the index from the list of each neighbour named and changes no other record. -/
theorem State.unlinkAll_record? (s : State) (i : Nat) (l : List Nat) (j : Nat) :
    (s.unlinkAll i l).record? j
      = if j ∈ l then (s.record? j).map fun r => { r with neighbours := r.neighbours.filter fun m => m != i }
        else s.record? j := by
  induction l generalizing s with
  | nil => simp [State.unlinkAll]
  | cons n l ih =>
    rw [State.unlinkAll_cons, ih, State.unlinkEnd_record?]
    by_cases hj : j = n
    · subst hj
      simp only [List.mem_cons, true_or, if_true, Option.map_map]
      split
      · congr 1; funext r; simp [List.filter_filter]
      · rfl
    · simp [hj]

/-! ### Counts -/

theorem RecordState.uncoveredCount_eq (st : RecordState) : st.uncoveredCount = if st = .ready then 0 else 1 := by
  cases st <;> rfl

/-! ### Freeing a record (R24) -/

theorem State.freeRecord_frame (s : State) (i : Nat) (r : Record) :
    s.freeRecord i r
      = { s with
          luminaires := (s.freeRecord i r).luminaires
          zones := (s.freeRecord i r).zones
          classes := (s.freeRecord i r).classes
          lookup := (s.freeRecord i r).lookup } := by
  unfold State.freeRecord
  rw [State.unlinkAll_frame]; rfl

theorem State.freeRecord_record? (s : State) (i : Nat) (r : Record) (j : Nat) :
    (s.freeRecord i r).record? j
      = if j = i then none
        else if j ∈ r.neighbours then
          (s.record? j).map fun q => { q with neighbours := q.neighbours.filter fun m => m != i }
        else s.record? j := by
  unfold State.freeRecord
  rw [State.dropRecord_record?]
  by_cases hj : j = i
  · simp [hj]
  · rw [if_neg (Ne.symm hj), if_neg hj]
    exact s.unlinkAll_record? i r.neighbours j

theorem State.freeRecord_zoneAt (s : State) (i : Nat) (r : Record) (z : Nat) :
    (s.freeRecord i r).zoneAt z = if z = r.zone then (s.zoneAt z).leave r.state else s.zoneAt z := by
  have h : (s.unlinkAll i r.neighbours).zoneAt = s.zoneAt := by rw [State.unlinkAll_frame]; rfl
  show ((s.unlinkAll i r.neighbours).leaveZone r.zone r.state).zoneAt z = _
  unfold State.leaveZone
  rw [State.setZone_zoneAt, h]
  by_cases hz : z = r.zone
  · subst hz; simp
  · simp [hz, Ne.symm hz]

theorem State.freeRecord_classAt (s : State) (i : Nat) (r : Record) (c : Nat) :
    (s.freeRecord i r).classAt c
      = if c = r.cls then { s.classAt c with users := (s.classAt c).users - 1 } else s.classAt c := by
  have h : ((s.unlinkAll i r.neighbours).leaveZone r.zone r.state).classAt = s.classAt := by
    rw [State.unlinkAll_frame]; rfl
  show (((s.unlinkAll i r.neighbours).leaveZone r.zone r.state).leaveClass r.cls).classAt c = _
  unfold State.leaveClass
  rw [State.setClass_classAt, h]
  by_cases hz : c = r.cls
  · subst hz; simp
  · simp [hz, Ne.symm hz]

theorem State.freeRecord_locate (s : State) (i : Nat) (r : Record) (g a : Nat) :
    (s.freeRecord i r).locate g a
      = if locationKey r.segment r.address = locationKey g a then none else s.locate g a := by
  have h : (((s.unlinkAll i r.neighbours).leaveZone r.zone r.state).leaveClass r.cls).locate = s.locate := by
    rw [State.unlinkAll_frame]; rfl
  show ((((s.unlinkAll i r.neighbours).leaveZone r.zone r.state).leaveClass r.cls).removeLocation
    r.segment r.address).locate g a = _
  rw [State.removeLocation_locate, h]

/-! ### A transition (R9) -/

theorem State.transition_record? (s : State) (i : Nat) (b a : Record) (j : Nat) :
    (s.transition i b a).record? j = if i = j then some a else s.record? j := State.setRecord_record? ..

theorem State.transition_zoneAt (s : State) (i : Nat) (b a : Record) (z : Nat) :
    (s.transition i b a).zoneAt z
      = if a.zone = z then (s.zoneAt z).recount b.state a.state else s.zoneAt z := by
  unfold State.transition
  rw [State.setZone_zoneAt]
  by_cases h : a.zone = z
  · subst h; simp
  · rw [if_neg h, if_neg h]; rfl

theorem State.transition_frame (s : State) (i : Nat) (b a : Record) :
    s.transition i b a
      = { s with luminaires := (s.transition i b a).luminaires, zones := (s.transition i b a).zones } := rfl

end Sys2Proof.Machine
end

