-- ==== Sys2Proof/Laws/Channels.lean ====
section
/-! SUPPORT. What the operations of the channels, the link's queue and the close do, and what they leave alone. -/

namespace Sys2Proof.Machine

/-! ### Orders -/

theorem State.queueOrder_frame (s : State) (kind : OrderKind) (k : Nat) :
    s.queueOrder kind k
      = { s with
          link :=
            { s.link with
              dispatch := (s.queueOrder kind k).link.dispatch
              stallCount := (s.queueOrder kind k).link.stallCount } } := by
  unfold State.queueOrder; split <;> rfl

theorem State.queueOrder_dispatch {s : State} {k : Nat} {r : Record} (kind : OrderKind)
    (h : s.record? (s.channelAt k).index = some r) :
    (s.queueOrder kind k).link.dispatch
      = s.link.dispatch
        ++ [{ kind := kind, channel := k, generation := (s.channelAt k).generation, segment := r.segment
              address := r.address }] := by
  unfold State.queueOrder; rw [h]; rfl

theorem State.queueOrder_stallCount {s : State} {k : Nat} {r : Record} (kind : OrderKind)
    (h : s.record? (s.channelAt k).index = some r) :
    (s.queueOrder kind k).link.stallCount = if s.link.dispatch = [] then 0 else s.link.stallCount := by
  unfold State.queueOrder; rw [h]; cases hd : s.link.dispatch <;> simp [State.writeOrder, hd]

theorem Order.belongs_iff (o : Order) (k g : Nat) : o.belongs k g = true ↔ o.channel = k ∧ o.generation = g := by
  simp [Order.belongs]

theorem State.withdraw_frame (s : State) (k g : Nat) :
    s.withdraw k g
      = { s with
          link :=
            { s.link with
              dispatch := s.link.dispatch.filter fun o => !o.belongs k g
              stallCount := (s.withdraw k g).link.stallCount } } := rfl

theorem State.mem_withdraw (s : State) (k g : Nat) (o : Order) :
    o ∈ (s.withdraw k g).link.dispatch ↔ o ∈ s.link.dispatch ∧ ¬(o.channel = k ∧ o.generation = g) := by
  rw [State.withdraw_frame, List.mem_filter, ← Order.belongs_iff]; simp

/-! ### The stall -/

theorem State.raiseStall_of_due {s : State} (h : s.link.stallDue = true) :
    s.raiseStall
      = ({ s with link := { s.link with stallLatch := true, stallDue := false } }).raise .linkStall 0 := by
  simp [State.raiseStall, h]

theorem State.raiseStall_of_not_due {s : State} (h : s.link.stallDue = false) : s.raiseStall = s := by
  simp [State.raiseStall, h]

/-! ### Bound channels -/

theorem State.bound_iff (s : State) (k : Nat) : s.bound k = true ↔ (s.channelAt k).state ≠ .free := by
  simp [State.bound]

theorem State.boundCount_le (s : State) : s.boundCount ≤ 32 :=
  (List.length_filter_le _ _).trans (by simp [allChannels, Config.channelCount])

theorem State.boundCount_eq_zero_iff (s : State) :
    s.boundCount = 0 ↔ ∀ j, j < 32 → (s.channelAt j).state = .free := by
  simp only [State.boundCount, List.length_eq_zero_iff, List.filter_eq_nil_iff, allChannels, List.mem_range,
    State.bound_iff, Config.channelCount, not_not]

/-! ### Verdicts -/

/-- What no verdict changes in a record (R70): its place, its links, its enrolment. -/
theorem State.judged_frame (s : State) (r : Record) (h : Closing) :
    s.judged r h
      = { r with
          state := (s.judged r h).state
          lastFunction := (s.judged r h).lastFunction
          lastDuration := (s.judged r h).lastDuration
          hold := (s.judged r h).hold
          requested := (s.judged r h).requested
          shortInterval := (s.judged r h).shortInterval
          noAnswer := (s.judged r h).noAnswer } := by
  obtain ⟨kind, verdict, detail, elapsed, run⟩ := h
  cases verdict <;> simp only [State.judged, State.passed, State.recharging, State.retrying, Record.passMarks] <;>
    (repeat' split) <;> rfl

/-- A verdict leaves no record under test. -/
theorem State.judged_state (s : State) (r : Record) (h : Closing) : (s.judged r h).state.inTest = false := by
  obtain ⟨kind, verdict, detail, elapsed, run⟩ := h
  cases verdict <;> simp only [State.judged, State.passed, State.recharging, State.retrying, Record.silenced] <;>
    (repeat' split) <;> rfl

theorem State.noticeEntry_frame (s : State) (i : Nat) (a : RecordState) :
    s.noticeEntry i a = { s with attention := (s.noticeEntry i a).attention } := by
  unfold State.noticeEntry; split <;> rfl

/-- The notice of a state entered: FAULT_FOUND at FAULTY, SILENT_FOUND at SILENT, each carrying the index. -/
theorem State.noticeEntry_causeAt (s : State) (i : Nat) (a : RecordState) (c : Cause) :
    (s.noticeEntry i a).causeAt c
      = if (a = .faulty ∧ c = .faultFound) ∨ (a = .silent ∧ c = .silentFound) then
          { s.causeAt c with pending := true, carried := i }
        else s.causeAt c := by
  cases a <;> cases c <;> simp [State.noticeEntry, State.raise_causeAt]

theorem State.applyVerdict_frame (s : State) (i : Nat) (r : Record) (h : Closing) :
    s.applyVerdict i r h
      = { s with
          luminaires := (s.applyVerdict i r h).luminaires
          zones := (s.applyVerdict i r h).zones
          attention := (s.applyVerdict i r h).attention } := by
  unfold State.applyVerdict
  simp only
  rw [State.noticeEntry_frame]; rfl

theorem State.applyVerdict_record? (s : State) (i : Nat) (r : Record) (h : Closing) (j : Nat) :
    (s.applyVerdict i r h).record? j
      = if i = j then some { s.judged r h with lastOutcome := some (s.outcomeOf h) } else s.record? j := by
  unfold State.applyVerdict
  simp only
  rw [State.noticeEntry_frame]
  exact State.transition_record? s i r _ j

/-! ### The close -/

theorem State.registerClose_frame (s : State) (c : Channel) (v : Verdict) (d : Option Detail) :
    s.registerClose c v d
      = { s with
          luminaires := (s.registerClose c v d).luminaires
          zones := (s.registerClose c v d).zones
          classes := (s.registerClose c v d).classes
          lookup := (s.registerClose c v d).lookup
          segments := (s.registerClose c v d).segments
          attention := (s.registerClose c v d).attention } := by
  unfold State.registerClose
  split
  · split
    · rw [State.freeRecord_frame]; rfl
    · rw [State.applyVerdict_frame]; rfl
  · rfl

theorem State.haltEnd_frame (s : State) :
    s.haltEnd = { s with programme := s.haltEnd.programme, attention := s.haltEnd.attention } := by
  unfold State.haltEnd; split <;> rfl

theorem State.haltEnd_causeAt (s : State) {c : Cause} (h : c ≠ .programme) : s.haltEnd.causeAt c = s.causeAt c := by
  unfold State.haltEnd
  split
  · unfold State.raiseProgramme
    rw [State.raise_causeAt, if_neg (Ne.symm h)]; rfl
  · rfl

theorem State.close_frame (s : State) (k : Nat) (v : Verdict) (d : Option Detail) :
    s.close k v d
      = { s with
          luminaires := (s.close k v d).luminaires
          zones := (s.close k v d).zones
          classes := (s.close k v d).classes
          lookup := (s.close k v d).lookup
          segments := (s.close k v d).segments
          channels := (s.close k v d).channels
          link := { s.link with
            dispatch := (s.close k v d).link.dispatch, stallCount := (s.close k v d).link.stallCount }
          programme := (s.close k v d).programme
          attention := (s.close k v d).attention } := by
  unfold State.close
  simp only
  rw [State.haltEnd_frame, State.registerClose_frame]; rfl

theorem State.close_channelAt (s : State) (k : Nat) (v : Verdict) (d : Option Detail) (j : Nat) :
    (s.close k v d).channelAt j
      = if k = j then { s.channelAt k with state := .free, role := .none } else s.channelAt j := by
  unfold State.close
  simp only
  rw [State.haltEnd_frame, State.registerClose_frame]
  exact State.setChannel_channelAt ..

/-! ### The halt word and the halt mark -/

theorem State.writeHaltWord_frame (s : State) :
    s.writeHaltWord
      = { s with
          link := { s.link with haltBox := s.writeHaltWord.link.haltBox }
          pendingHalt := s.writeHaltWord.pendingHalt } := by
  unfold State.writeHaltWord; split <;> rfl

theorem State.haltMarkAt_frame (s : State) (m : SegMap) (k : Nat) :
    State.haltMarkAt m s k = { s with channels := (State.haltMarkAt m s k).channels } := by
  unfold State.haltMarkAt; split <;> rfl

theorem State.haltMark_frame (s : State) (m : SegMap) : s.haltMark m = { s with channels := (s.haltMark m).channels } := by
  unfold State.haltMark
  generalize allChannels = l
  induction l generalizing s with
  | nil => rfl
  | cons k l ih =>
    rw [List.foldl_cons, ih (State.haltMarkAt m s k), State.haltMarkAt_frame]

/-! ### Dispatch -/

theorem State.dispatchMark_frame (s : State) (i : Nat) (r : Record) :
    s.dispatchMark i r
      = { s with
          luminaires := (s.dispatchMark i r).luminaires
          zones := (s.dispatchMark i r).zones
          segments := (s.dispatchMark i r).segments } := rfl

theorem State.bind_frame (s : State) (k i : Nat) (kind : Kind) (r : Record) :
    s.bind k i kind r
      = { s with
          channels := (s.bind k i kind r).channels
          link :=
            { s.link with
              dispatch := (s.bind k i kind r).link.dispatch
              stallCount := (s.bind k i kind r).link.stallCount } } := by
  unfold State.bind
  rw [State.queueOrder_frame]; rfl

end Sys2Proof.Machine
end

