-- ==== Sys2Proof/Laws/PerInstr.lean ====
section
/-! SUPPORT. A law of every command as syntax, one lemma a command: the actions are the commands that have bytes on the
host port (10.5), and the bytes of a well-formed action are a code of the command table followed by as many argument
bytes as the table gives that code. -/

namespace Sys2Proof.Laws.ActionBytes

/-- An action's bytes are its code and as many argument bytes as the command table gives the code; a command that is no
action has none. -/
def Statement (i : Instr) : Prop :=
  (i.isAction = true → i.wellFormed = true →
      ∃ code args, encodeAction i = some (code :: args) ∧ codeClass code = .action args.length)
    ∧ (i.isAction = false → encodeAction i = none)

/-- The law of an action whose bytes are known. -/
theorem of_bytes {i : Instr} {code : Byte} {args : List Byte} (ha : i.isAction = true)
    (he : encodeAction i = some (code :: args)) (hc : i.wellFormed = true → codeClass code = .action args.length) :
    Statement i :=
  ⟨fun _ hw => ⟨code, args, he, hc hw⟩, fun h => absurd (ha.symm.trans h) (by decide)⟩

/-- The law of a command that is no action. -/
theorem of_none {i : Instr} (ha : i.isAction = false) (he : encodeAction i = none) : Statement i :=
  ⟨fun h => absurd (ha.symm.trans h) (by decide), fun _ => he⟩

/-- Each neighbour place is two bytes. -/
theorem placesBytes_length (l : List Half) : (placesBytes l).length = 2 * l.length := by
  induction l with
  | nil => rfl
  | cons h l ih =>
    simp only [placesBytes, List.flatMap_cons, List.length_append, List.length_cons] at *
    simp [halfBytes, ih]
    omega

theorem enrol (slot : Half) (segment address zone cls count : Byte) (places : List Half) :
    Statement (.enrol slot segment address zone cls count places) :=
  of_bytes rfl rfl fun h => by
    have hp : places.length = 6 := by simpa [Instr.wellFormed, Config.neighbourLimit] using h
    simp [codeClass, halfBytes, placesBytes_length, hp]

theorem amend (slot : Half) (selection segment address zone cls count : Byte) (places : List Half) :
    Statement (.amend slot selection segment address zone cls count places) :=
  of_bytes rfl rfl fun h => by
    have hp : places.length = 6 := by simpa [Instr.wellFormed, Config.neighbourLimit] using h
    simp [codeClass, halfBytes, placesBytes_length, hp]

theorem retire (slot : Half) : Statement (.retire slot) := of_bytes rfl rfl fun _ => rfl

theorem writeClass (cls : Byte) (functionLength ratedDuration functionInterval durationInterval : Half)
    (earlyWindow grace rechargeFactor : Byte) (rechargeMin rechargeMax : Half) :
    Statement (.writeClass cls functionLength ratedDuration functionInterval durationInterval earlyWindow
      grace rechargeFactor rechargeMin rechargeMax) :=
  of_bytes rfl rfl fun _ => rfl

theorem clearClass (cls : Byte) : Statement (.clearClass cls) := of_bytes rfl rfl fun _ => rfl

theorem writeZone (zone profile percent : Byte) : Statement (.writeZone zone profile percent) :=
  of_bytes rfl rfl fun _ => rfl

theorem setZoneHold (zone flag : Byte) : Statement (.setZoneHold zone flag) := of_bytes rfl rfl fun _ => rfl

theorem clearZone (zone : Byte) : Statement (.clearZone zone) := of_bytes rfl rfl fun _ => rfl

theorem writeSegment (segment enabled cap : Byte) : Statement (.writeSegment segment enabled cap) :=
  of_bytes rfl rfl fun _ => rfl

theorem requestTest (slot : Half) (kind : Byte) : Statement (.requestTest slot kind) := of_bytes rfl rfl fun _ => rfl

theorem cancelRequest (slot : Half) : Statement (.cancelRequest slot) := of_bytes rfl rfl fun _ => rfl

theorem acceptRepair (slot : Half) : Statement (.acceptRepair slot) := of_bytes rfl rfl fun _ => rfl

theorem revive (slot : Half) : Statement (.revive slot) := of_bytes rfl rfl fun _ => rfl

theorem abortTest (slot : Half) : Statement (.abortTest slot) := of_bytes rfl rfl fun _ => rfl

theorem setClock (minute : Word) : Statement (.setClock minute) := of_bytes rfl rfl fun _ => rfl

theorem trimClock (amount : Byte) : Statement (.trimClock amount) := of_bytes rfl rfl fun _ => rfl

theorem writeProfile (profile : Byte) (slots : Slots) : Statement (.writeProfile profile slots) :=
  of_bytes rfl rfl fun _ => by simp [codeClass, slotsBytes]

theorem addException (start stop : Word) (scope index effect : Byte) :
    Statement (.addException start stop scope index effect) :=
  of_bytes rfl rfl fun _ => rfl

theorem dropException (start stop : Word) (scope index effect : Byte) :
    Statement (.dropException start stop scope index effect) :=
  of_bytes rfl rfl fun _ => rfl

theorem setSweep (mode scope zone : Byte) : Statement (.setSweep mode scope zone) := of_bytes rfl rfl fun _ => rfl

theorem startSweep : Statement .startSweep := of_bytes rfl rfl fun _ => rfl

theorem setTiming (seconds : Half) : Statement (.setTiming seconds) := of_bytes rfl rfl fun _ => rfl

theorem configureLink (sense threshold loopback : Byte) : Statement (.configureLink sense threshold loopback) :=
  of_bytes rfl rfl fun _ => rfl

theorem haltSegments (segments : SegMap) : Statement (.haltSegments segments) := of_bytes rfl rfl fun _ => rfl

theorem start : Statement .start := of_bytes rfl rfl fun _ => rfl

theorem suspend (flag : Byte) (minute : Word) : Statement (.suspend flag minute) := of_bytes rfl rfl fun _ => rfl

theorem resume : Statement .resume := of_bytes rfl rfl fun _ => rfl

theorem halt : Statement .halt := of_bytes rfl rfl fun _ => rfl

theorem setTurnaround (bytes : Byte) : Statement (.setTurnaround bytes) := of_bytes rfl rfl fun _ => rfl

theorem setAttentionLevels (levels : List Byte) : Statement (.setAttentionLevels levels) :=
  of_bytes rfl rfl fun h => by
    have hp : levels.length = 8 := by simpa [Instr.wellFormed] using h
    simp [codeClass, hp]

theorem resetPart : Statement .resetPart := of_bytes rfl rfl fun _ => rfl

theorem partReset : Statement .partReset := of_none rfl rfl

theorem accept (bytes : List Byte) (ending : TransactionEnd) : Statement (.accept bytes ending) := of_none rfl rfl

theorem readStatus : Statement .readStatus := of_none rfl rfl

theorem statusRepetition : Statement .statusRepetition := of_none rfl rfl

theorem readAttention : Statement .readAttention := of_none rfl rfl

theorem readClock : Statement .readClock := of_none rfl rfl

theorem readRecord (start : Half) : Statement (.readRecord start) := of_none rfl rfl

theorem walkZone (zone : Byte) (start : Half) : Statement (.walkZone zone start) := of_none rfl rfl

theorem walkState (code : Byte) (start : Half) : Statement (.walkState code start) := of_none rfl rfl

theorem walkNextImage : Statement .walkNextImage := of_none rfl rfl

theorem walkEnd : Statement .walkEnd := of_none rfl rfl

theorem findAddress (segment address : Byte) : Statement (.findAddress segment address) := of_none rfl rfl

theorem readClass (cls : Byte) : Statement (.readClass cls) := of_none rfl rfl

theorem readZone (zone : Byte) : Statement (.readZone zone) := of_none rfl rfl

theorem readSegment (segment : Byte) : Statement (.readSegment segment) := of_none rfl rfl

theorem readProfile (profile : Byte) : Statement (.readProfile profile) := of_none rfl rfl

theorem readExceptions : Statement .readExceptions := of_none rfl rfl

theorem readChannels : Statement .readChannels := of_none rfl rfl

theorem readCandidates : Statement .readCandidates := of_none rfl rfl

theorem secondTick : Statement .secondTick := of_none rfl rfl

theorem runExpiry (channel : Nat) : Statement (.runExpiry channel) := of_none rfl rfl

theorem answerExpiry (channel : Nat) : Statement (.answerExpiry channel) := of_none rfl rfl

theorem stall : Statement .stall := of_none rfl rfl

theorem visit : Statement .visit := of_none rfl rfl

theorem passCompletion : Statement .passCompletion := of_none rfl rfl

theorem trial : Statement .trial := of_none rfl rfl

theorem orderTake : Statement .orderTake := of_none rfl rfl

theorem loopbackTake : Statement .loopbackTake := of_none rfl rfl

theorem reportWrite (word : QueueWord) : Statement (.reportWrite word) := of_none rfl rfl

theorem reportTake : Statement .reportTake := of_none rfl rfl

theorem mainsWordWrite (word : BoxWord) : Statement (.mainsWordWrite word) := of_none rfl rfl

theorem mainsWordTake : Statement .mainsWordTake := of_none rfl rfl

theorem haltTake : Statement .haltTake := of_none rfl rfl

end Sys2Proof.Laws.ActionBytes
end

