-- ==== Sys2Proof/Laws/Port.lean ====
section
/-! SUPPORT. The port's part in a command, said once: an action that is ready, an action that is not, an event, and the
words in which claims are stated. -/

namespace Sys2Proof.Machine

theorem settle_of_calm {s : State} (h : s.calm = true) : s.settle = s := by simp [State.settle, h]

/-- An action that is ready has its effect and ends with its result. -/
theorem carryOut_ready {c : Instr} {effect : State → State × Result} {s : State} (h : Ready c s) :
    carryOut c effect s = .next ((effect s).1.finish (effect s).2) := by
  simp [carryOut, settle_of_calm h.1, h.2]

/-- An action that is not admitted is dropped. -/
theorem carryOut_dropped {c a : Instr} {effect : State → State × Result} {s : State} (h : s.calm = true)
    (ha : s.port.inHand = some a) (hc : a ≠ c) : carryOut c effect s = .next s.drop := by
  simp [carryOut, settle_of_calm h, State.admits, ha, hc]

/-- Whatever the effect, an action completes in its own effect with its result, or is dropped. -/
theorem carryOut_cases (c : Instr) (effect : State → State × Result) (s : State) :
    carryOut c effect s = .next ((effect s.settle).1.finish (effect s.settle).2)
      ∨ carryOut c effect s = .next s.settle.drop := by
  simp only [carryOut]; split <;> simp

theorem event_calm {effect : State → State} {s : State} (h : s.calm = true) : event effect s = .next (effect s) := by
  simp [event, settle_of_calm h]

/-- A read that is served ends a READ STATUS before it and has its effect. -/
theorem readTake_calm {data : State → State} {s : State} (h : s.calm = true) (hb : s.busy = false) :
    readTake data s = .next (data s.leaveStatus) := by
  simp only [readTake, event_calm h, State.serve]
  rw [if_neg]; simpa [State.busy] using hb

/-- A read that BUSY refuses sends all-ones bytes. -/
theorem readTake_busy {data : State → State} {s : State} (h : s.calm = true) (hb : s.busy = true) :
    readTake data s = .next (s.leaveStatus.send []) := by
  simp only [readTake, event_calm h, State.serve]
  rw [if_pos]; simpa [State.busy] using hb

theorem readWhole_calm {data : State → List Byte} {s : State} (h : s.calm = true) (hb : s.busy = false) :
    readWhole data s = .next (s.leaveStatus.send (data s.leaveStatus)) := readTake_calm h hb

theorem readWhole_busy {data : State → List Byte} {s : State} (h : s.calm = true) (hb : s.busy = true) :
    readWhole data s = .next (s.leaveStatus.send []) := readTake_busy h hb

/-- A completion whose next state is known. -/
theorem completes_of_eq {c : Instr} {s t : State} {post : State → Prop} (h : exec c s = .next t) (hp : post t) :
    Completes c s post := ⟨t, h, hp⟩

end Sys2Proof.Machine
end

