-- ==== Sys2Proof/Laws/Reads.lean ====
section
/-! SUPPORT. The numbers that the bytes of a read spell, and the cause a READ ATTENTION chooses. -/

namespace Sys2Proof.Machine

/-! ### Bytes -/

theorem byte_toNat (n : Nat) : (byte n).toNat = n % 256 := by simp [byte]

theorem bytesValue_be2 (n : Nat) : bytesValue (be2 n) = n % 65536 := by
  simp [be2, bytesValue, byte_toNat]; omega

theorem bytesValue_be4 (n : Nat) : bytesValue (be4 n) = n % 4294967296 := by
  simp [be4, bytesValue, byte_toNat]; omega

theorem flagByte_toNat (b : Bool) : (flagByte b).toNat = if b = true then 1 else 0 := by cases b <;> rfl

theorem be2_length (n : Nat) : (be2 n).length = 2 := rfl

theorem be4_length (n : Nat) : (be4 n).length = 4 := rfl

/-- A quotient rounded up is the least that covers its dividend. -/
theorem ceilDiv_spec (a : Nat) {b : Nat} (hb : 0 < b) : a ≤ ceilDiv a b * b ∧ ceilDiv a b * b < a + b := by
  unfold ceilDiv
  have h1 := Nat.div_add_mod (a + b - 1) b
  have h2 := Nat.mod_lt (a + b - 1) hb
  have h3 : (a + b - 1) / b * b = b * ((a + b - 1) / b) := Nat.mul_comm ..
  omega

/-! ### The cause a read returns (R181) -/

theorem Cause.mem_all (c : Cause) : c ∈ Cause.all := by cases c <;> simp [Cause.all]

theorem Cause.number_inj {c d : Cause} (h : c.number = d.number) : c = d := by
  cases c <;> cases d <;> first | rfl | simp [Cause.number] at h

/-- `c` outranks every pending cause of which `P` holds: the highest level, then the lowest number. -/
def State.Outranks (s : State) (c : Cause) (P : Cause → Prop) : Prop :=
  P c ∧ (s.causeAt c).pending = true ∧ ∀ d, P d → (s.causeAt d).pending = true →
    (s.causeAt d).level < (s.causeAt c).level
      ∨ ((s.causeAt d).level = (s.causeAt c).level ∧ c.number ≤ d.number)

/-- What has been found among the causes of which `P` holds: none of them pending, or the one that outranks the rest. -/
def State.Found (s : State) (P : Cause → Prop) : Option Cause → Prop
  | none => ∀ x, P x → (s.causeAt x).pending = false
  | some c => s.Outranks c P

/-- One more cause, numbered above all before it, keeps the finding true. -/
theorem State.better_found {s : State} {P : Cause → Prop} {b : Option Cause} {a : Cause}
    (hP : ∀ x, P x → x.number < a.number) (hb : s.Found P b) : s.Found (fun x => P x ∨ x = a) (s.better b a) := by
  unfold State.better
  by_cases hp : (s.causeAt a).pending = true
  · rw [if_pos hp]
    cases b with
    | none =>
      refine ⟨.inr rfl, hp, fun d hd hdp => ?_⟩
      obtain hd | rfl := hd
      · rw [hb d hd] at hdp; cases hdp
      · exact .inr ⟨rfl, le_rfl⟩
    | some c =>
      obtain ⟨h1, h2, h3⟩ := hb
      have hca := hP c h1
      dsimp only
      split
      · refine ⟨.inr rfl, hp, fun d hd hdp => ?_⟩
        obtain hd | rfl := hd
        · have := h3 d hd hdp; left; omega
        · exact .inr ⟨rfl, le_rfl⟩
      · refine ⟨.inl h1, h2, fun d hd hdp => ?_⟩
        obtain hd | rfl := hd
        · exact h3 d hd hdp
        · omega
  · rw [if_neg hp]
    cases b with
    | none =>
      intro x hx
      obtain hx | rfl := hx
      · exact hb x hx
      · simpa using hp
    | some c =>
      obtain ⟨h1, h2, h3⟩ := hb
      refine ⟨.inl h1, h2, fun d hd hdp => ?_⟩
      obtain hd | rfl := hd
      · exact h3 d hd hdp
      · exact absurd hdp hp

theorem State.foldl_better_found {s : State} {l : List Cause} (hl : l.Pairwise fun a b => a.number < b.number)
    {P : Cause → Prop} {b : Option Cause} (hP : ∀ x, P x → ∀ y ∈ l, x.number < y.number) (hb : s.Found P b) :
    s.Found (fun x => P x ∨ x ∈ l) (l.foldl s.better b) := by
  induction l generalizing b P with
  | nil => simpa using hb
  | cons a l ih =>
    obtain ⟨h1, h2⟩ := List.pairwise_cons.mp hl
    have h := ih h2 (P := fun x => P x ∨ x = a)
      (by
        rintro x (hx | rfl) y hy
        · exact hP x hx y (List.mem_cons_of_mem _ hy)
        · exact h1 y hy)
      (State.better_found (fun x hx => hP x hx a List.mem_cons_self) hb)
    rw [List.foldl_cons]
    simpa only [List.mem_cons, or_assoc] using h

/-- The chosen cause: none where no cause is pending, else the pending cause that outranks all others. -/
theorem State.chosenCause_found (s : State) : s.Found (fun _ => True) s.chosenCause := by
  have h := State.foldl_better_found (s := s) (l := Cause.all) (by decide) (P := fun _ => False) (b := none)
    (fun _ hx => hx.elim) (fun _ hx => hx.elim)
  simp only [Cause.mem_all, or_true] at h
  exact h

end Sys2Proof.Machine
end

