-- ==== Sys2Proof/Tests/Slice0.lean ====
section
/-! SUPPORT. The model's own tests: ill-formed terms refused, transactions written out from the command table, one-step
tests whose expected values are those of the spec's worked examples (named in each comment), and a witness for every
statement that has hypotheses. -/

namespace Sys2Proof.Tests

open Sys2Proof.Machine

-- One theorem after another: taken in parallel they need more threads than check.sh's memory limit leaves room for.
set_option Elab.async false

/-! ### The well-formedness checks refuse ill-formed terms -/

theorem test_wf_enrol_five_places : (Instr.enrol 103 5 23 12 3 2 [101, 102, 0, 0, 0]).wellFormed = false := by decide

theorem test_wf_amend_seven_places :
    (Instr.amend 101 8 0 0 0 0 2 [103, 100, 0, 0, 0, 0, 0]).wellFormed = false := by decide

theorem test_wf_seven_levels : (Instr.setAttentionLevels [6, 6, 7, 2, 4, 4, 3]).wellFormed = false := by decide

theorem test_wf_run_expiry_channel_32 : (Instr.runExpiry 32).wellFormed = false := by decide

theorem test_wf_answer_expiry_channel_32 : (Instr.answerExpiry 32).wellFormed = false := by decide

theorem test_wf_accepts :
    (Instr.enrol 103 5 23 12 3 2 [101, 102, 0, 0, 0, 0]).wellFormed = true
      ∧ (Instr.amend 101 8 0 0 0 0 2 [103, 100, 0, 0, 0, 0]).wellFormed = true
      ∧ (Instr.setAttentionLevels [6, 6, 7, 2, 4, 4, 3, 0]).wellFormed = true
      ∧ (Instr.runExpiry 31).wellFormed = true ∧ (Instr.answerExpiry 31).wellFormed = true := by decide

/-! ### Transactions written out from the command table (10.5) -/

/-- ENROL slot 103 at 5 / 23, zone 12, class 3, neighbours 101 and 102. -/
theorem test_decode_enrol :
    decodeAction 0x01 [0, 103, 5, 23, 12, 3, 2, 0, 101, 0, 102, 0, 0, 0, 0, 0, 0, 0, 0]
      = some (.enrol 103 5 23 12 3 2 [101, 102, 0, 0, 0, 0]) := by decide

/-- AMEND slot 101 (00 65), selection NEIGHBOURS (bit 3), list 103, 100. -/
theorem test_decode_amend :
    decodeAction 0x02 [0, 101, 8, 0, 0, 0, 0, 2, 0, 103, 0, 100, 0, 0, 0, 0, 0, 0, 0, 0]
      = some (.amend 101 8 0 0 0 0 2 [103, 100, 0, 0, 0, 0]) := by decide

/-- Class 3 of chapter 12, two-byte figures most significant byte first: 365 is 01 6D, 1,440 is 05 A0. -/
theorem test_decode_write_class :
    decodeAction 0x04 [3, 0, 45, 0, 180, 0, 30, 0x01, 0x6D, 14, 30, 128, 0, 120, 0x05, 0xA0]
      = some (.writeClass 3 45 180 30 365 14 30 128 120 1440) := by decide

/-- SET CLOCK 1,512,840 is 00 17 15 88. -/
theorem test_decode_set_clock : decodeAction 0x10 [0x00, 0x17, 0x15, 0x88] = some (.setClock 1512840) := by decide

/-- ADD EXCEPTION 1,516,110..1,516,230, ZONE 40, CLOSE. -/
theorem test_decode_add_exception :
    decodeAction 0x13 [0x00, 0x17, 0x22, 0x4E, 0x00, 0x17, 0x22, 0xC6, 2, 40, 0]
      = some (.addException 1516110 1516230 2 40 0) := by decide

/-- The other families: SET SWEEP REPEAT, SET TIMING 600, CONFIGURE LINK, HALT SEGMENTS of segment 11, SUSPEND until
1,516,230, SET ATTENTION LEVELS. -/
theorem test_decode_families :
    decodeAction 0x18 [2, 0, 0] = some (.setSweep 2 0 0) ∧ decodeAction 0x1C [0x02, 0x58] = some (.setTiming 600)
      ∧ decodeAction 0x1D [0, 1, 1] = some (.configureLink 0 1 1)
      ∧ decodeAction 0x1E [0x00, 0x08] = some (.haltSegments 0x0800)
      ∧ decodeAction 0x21 [1, 0x00, 0x17, 0x22, 0xC6] = some (.suspend 1 1516230)
      ∧ decodeAction 0x29 [6, 6, 7, 2, 4, 4, 3, 0] = some (.setAttentionLevels [6, 6, 7, 2, 4, 4, 3, 0])
      ∧ decodeAction 0x0F [0, 1] = none := by decide

/-- Slot 0 of a profile is bit 7 of the first slot byte, slot 335 bit 0 of the last (10.4). -/
theorem test_slots_order :
    slotOpen (slotsOf (0x80 :: List.replicate 41 0)) 0 = true
      ∧ slotOpen (slotsOf (List.replicate 41 0 ++ [0x01])) 335 = true
      ∧ slotOpen (slotsOf (0x80 :: List.replicate 41 0)) 7 = false := by decide +kernel

/-- Reads ignore what follows their arguments (R166). -/
theorem test_decode_read :
    decodeRead 0x87 [5, 23, 99] = some (.findAddress 5 23) ∧ decodeRead 0x85 [12, 0, 101] = some (.walkZone 12 101)
      ∧ decodeRead 0x87 [5] = none := by decide

/-! ### The building of chapter 12 -/

/-- Class 3. -/
def class3 : Figures :=
  { functionLength := 45, ratedDuration := 180, functionInterval := 30, durationInterval := 365, earlyWindow := 14
    grace := 30, rechargeFactor := 128, rechargeMin := 120, rechargeMax := 1440 }

/-- Profile 6, OPEN from 20:00 to 05:59 every day. -/
def night : Slots := 0xFFF0000000FFFFF0000000FFFFF0000000FFFFF0000000FFFFF0000000FFFFF0000000FFFFF0000000FF#336

/-- A fitting of zone 40 on segment 11, enrolled at 1,512,840. -/
def fitting (address : Nat) (neighbours : List Nat) : Record :=
  { segment := 11, address := address, zone := 40, cls := 3, neighbours := neighbours, state := .ready
    enrolMinute := 1512840, lastFunction := none, lastDuration := none, hold := none, requested := none
    shortInterval := false, noAnswer := 0, retirePending := false, lastOutcome := none }

/-- Zone 40 with a population and an uncovered count. -/
def zone40 (population uncovered : Nat) : Zone :=
  { isDefined := true, profile := 6, percent := 40, held := false, population := population, uncovered := uncovered }

/-- Segment 11 PRESENT with an active count. -/
def segment11 (active : Nat) : Segment :=
  { enabled := true, cap := 2, active := active, mains := .present, outageStart := none }

/-- The building on Monday at 20:00, programme RUNNING, no test bound. -/
def building : State :=
  { State.reset with
    luminaires :=
      [(500, fitting 1 [501]), (501, fitting 2 [500, 502]), (502, fitting 3 [501, 503]), (503, fitting 4 [502, 504]),
        (504, fitting 5 [503])]
    classes := [(3, { figures := some class3, users := 5 })]
    zones := [(40, zone40 5 0)]
    segments := [(11, segment11 0)]
    lookup := [(2817, 500), (2818, 501), (2819, 502), (2820, 503), (2821, 504)]
    clock := { value := 1513200, isSet := true, seconds := 0 }
    profiles := [(6, night)]
    link := { Link.reset with configured := true }
    programme := { state := .running, resumeMinute := none }
    planner := { Planner.reset with mode := .repeating } }

/-- The same building with record 500 in a duration test on channel 0, generation 1, after some seconds. -/
def testing (elapsed : Nat) : State :=
  { building with
    luminaires :=
      [(500, { fitting 1 [501] with state := .testing }), (501, fitting 2 [500, 502]), (502, fitting 3 [501, 503]),
        (503, fitting 4 [502, 504]), (504, fitting 5 [503])]
    zones := [(40, zone40 5 1)]
    segments := [(11, segment11 1)]
    channels :=
      [(0,
          { state := .running, index := 500, kind := .duration, generation := 1, started := true, runSeconds := 10800
            elapsed := elapsed, role := .run, target := 10800 - elapsed, path := .order })] }

/-- `testing` with channel 0 in another state, its answer timer at 120. -/
def answering (state : ChannelState) (path : AbortPath) (elapsed : Nat) : State :=
  (testing elapsed).setChannel 0
    { (testing elapsed).channelAt 0 with state := state, role := .answer, target := 120, path := path }

/-- The published entries of Monday at 20:00. -/
def entry (i : Nat) : PublishedEntry :=
  { entry := { index := i, kind := .duration, requested := false, deadline := 1556040 }, outcome := .notTried }

/-- The building in its dispatch phase. -/
def dispatching : State :=
  { building with
    planner := { building.planner with phase := .dispatching, published := [500, 501, 502, 503, 504].map entry } }

/-- The building in a pass that has not visited yet. -/
def visiting : State := { building with planner := { building.planner with phase := .visiting } }

/-- The state a command leads to; State.reset where it stops. -/
def after (c : Instr) (s : State) : State :=
  match exec c s with
  | .next t => t
  | _ => State.reset

/-- The result a command ends with. -/
def result (c : Instr) (s : State) : Result := (after c s).port.lastResult

/-- A record with some of its fields, for comparison. -/
def shown (s : State) (i : Nat) : Option (RecordState × List Nat × Option Nat) :=
  (s.record? i).map fun r => (r.state, r.neighbours, r.hold)

/-! ### The register -/

/-- R19 and R9: a fitting enrolled beside 504 at 11 / 6. -/
theorem test_enrol :
    let t := after (.enrol 505 11 6 40 3 1 [504, 9, 9, 9, 9, 9]) building
    shown t 505 = some (.ready, [504], none) ∧ shown t 504 = some (.ready, [503, 505], none)
      ∧ (t.zoneAt 40).population = 6 ∧ (t.classAt 3).users = 6 ∧ t.locate 11 6 = some 505 := by decide +kernel

/-- R18, the order of its conditions: a taken address is seen before an invalid neighbour. -/
theorem test_enrol_address_taken :
    result (.enrol 505 11 5 40 3 1 [505, 0, 0, 0, 0, 0]) building = .addressTaken
      ∧ result (.enrol 505 11 6 40 3 1 [505, 0, 0, 0, 0, 0]) building = .neighbourInvalid
      ∧ result (.enrol 4096 11 5 40 3 0 [0, 0, 0, 0, 0, 0]) building = .outOfRange := by decide +kernel

/-- The worked example of chapter 01 on these records: a list that drops one neighbour, in the order given. -/
theorem test_amend_neighbours :
    let t := after (.amend 502 8 0 0 0 0 1 [503, 0, 0, 0, 0, 0]) building
    shown t 502 = some (.ready, [503], none) ∧ shown t 501 = some (.ready, [500], none)
      ∧ shown t 503 = some (.ready, [502, 504], none) := by decide +kernel

/-- R20: a location change under test ends IN_TEST; the same location selected is no change. -/
theorem test_amend_in_test :
    result (.amend 500 1 11 40 0 0 0 [0, 0, 0, 0, 0, 0]) (testing 60) = .inTest
      ∧ result (.amend 500 1 11 1 0 0 0 [0, 0, 0, 0, 0, 0]) (testing 60) = .noEffect := by decide +kernel

/-- R24, R25: retired at once, and deferred under test. -/
theorem test_retire :
    let t := after (.retire 504) building
    shown t 504 = none ∧ shown t 503 = some (.ready, [502], none) ∧ (t.zoneAt 40).population = 4
      ∧ t.locate 11 5 = none ∧ result (.retire 500) (testing 60) = .deferred := by decide +kernel

/-- R5's own example: minimum 2,000 and maximum 40 become 60 and 60, DONE_CLAMPED. -/
theorem test_write_class_minimum :
    let t := after (.writeClass 3 45 180 30 365 14 30 128 2000 40) building
    (t.figures 3).rechargeMin = 60 ∧ (t.figures 3).rechargeMax = 60 ∧ t.port.lastResult = .doneClamped
      ∧ (t.classAt 3).users = 5 := by decide +kernel

/-- R6 and R12: a class with users and a zone with records are IN_USE. -/
theorem test_clear_in_use :
    result (.clearClass 3) building = .inUse ∧ result (.clearClass 4) building = .noEffect
      ∧ result (.clearZone 40) building = .inUse := by decide +kernel

/-- R10, R11, R14: a percent of 0 is clamped to 1, a cap of 9 to 8. -/
theorem test_zone_and_segment :
    ((after (.writeZone 41 6 0) building).zoneAt 41).percent = 1
      ∧ result (.writeZone 41 6 0) building = .doneClamped ∧ result (.setZoneHold 41 1) building = .zoneUndefined
      ∧ ((after (.setZoneHold 40 7) building).zoneAt 40).held = true
      ∧ ((after (.writeSegment 11 1 9) building).segmentAt 11).cap = 8 := by decide +kernel

/-! ### Test states -/

/-- R80, R81. -/
theorem test_requests :
    ((after (.requestTest 500 1) building).record? 500).map (·.requested) = some (some .duration)
      ∧ result (.requestTest 500 2) building = .outOfRange ∧ result (.cancelRequest 500) building = .noEffect := by
  decide +kernel

/-- Chapter 12, Tuesday: ACCEPT REPAIR of the FAULTY record 502; chapter 04: REVIVE has no effect on it. -/
theorem test_accept_repair :
    let s := { building with
      luminaires := [(502, { fitting 3 [] with state := .faulty })], zones := [(40, zone40 5 2)] }
    let t := after (.acceptRepair 502) s
    (t.record? 502).map (fun r => (r.state, r.requested)) = some (.ready, some .duration)
      ∧ (t.zoneAt 40).uncovered = 1 ∧ result (.revive 502) s = .noEffect := by decide +kernel

/-- R83: a SILENT record is READY again, its no-answer count 0. -/
theorem test_revive :
    let s := { building with
      luminaires := [(502, { fitting 3 [] with state := .silent, noAnswer := 3 })], zones := [(40, zone40 5 2)] }
    let t := after (.revive 502) s
    (t.record? 502).map (fun r => (r.state, r.noAnswer)) = some (.ready, 0) ∧ (t.zoneAt 40).uncovered = 1 := by
  decide +kernel

/-! ### Clock and calendars -/

/-- Chapter 12: Monday 14:00 is minute 1,512,840 and week slot 28; Monday 20:00 is slot 40. -/
theorem test_week_slot : weekSlot 1512840 = 28 ∧ weekSlot 1513200 = 40 ∧ weekSlot 1514640 = 88 := by decide

/-- R29: SET CLOCK only in STOPPED; R31: a trim of -30 at 0 ends NO_EFFECT. -/
theorem test_clock_commands :
    result (.setClock 5) building = .wrongState
      ∧ (after (.setClock 1512840) State.reset).clock = { value := 1512840, isSet := true, seconds := 0 }
      ∧ result (.trimClock 0xE2) (after (.setClock 0) State.reset) = .noEffect
      ∧ (after (.trimClock 0x80) building).clock.value = 1513170
      ∧ result (.trimClock 0x80) building = .doneClamped := by decide +kernel

/-- R36, R37: equal starts stand in the order they were added. -/
theorem test_exceptions :
    let s := after (.addException 1513210 1513220 2 40 0) building
    let t := after (.addException 1513210 1513230 0 9 1) s
    t.exceptions.map (·.stop) = [1513220, 1513230] ∧ t.exceptions.map (·.scope) = [.zone 40, .campus]
      ∧ result (.addException 1513210 1513230 0 77 1) t = .duplicate
      ∧ result (.dropException 1513210 1513230 0 5 1) t = .done
      ∧ result (.addException 1513100 1513200 0 0 1) building = .noEffect := by decide +kernel

/-- R35 and R34: a profile is written whole. -/
theorem test_write_profile :
    (after (.writeProfile 6 0) building).profileAt 6 = 0 ∧ result (.writeProfile 32 0) building = .outOfRange := by
  decide +kernel

/-- R27: the minute-completing tick, and a tick before it. -/
theorem test_second_tick :
    let s := { building with clock := { building.clock with seconds := 59 } }
    (after .secondTick s).clock = { value := 1513201, isSet := true, seconds := 0 }
      ∧ (after .secondTick s).planner.phase = .visiting
      ∧ (after .secondTick building).clock = { value := 1513200, isSet := true, seconds := 1 } := by decide +kernel

/-- Chapter 12, Tuesday 23:00: the advance to 1,514,820 releases the hold of record 500. -/
theorem test_hold_release :
    let s := { building with
      luminaires := [(500, { fitting 1 [] with state := .recharging, hold := some 1514820 })]
      zones := [(40, zone40 5 2)] }
    shown (s.clockAdvance 1514820) 500 = some (.ready, [], none) ∧ ((s.clockAdvance 1514820).zoneAt 40).uncovered = 1
      ∧ shown (s.clockAdvance 1514819) 500 = some (.recharging, [], some 1514820) := by decide +kernel

/-! ### Test arithmetic: the worked figures of chapters 03, 06 and 12 -/

theorem test_permille : capacityPermille .failCutoff 6000 10800 = 555 ∧ capacityPermille .pass 10802 10800 = 1000 := by
  decide

theorem test_recharge_holds :
    rechargeHold class3 (dischargedAtClose 10802 10800) = 1440 ∧ rechargeHold class3 (dischargedAtClose 1800 10800) = 240
      ∧ rechargeHold class3 (dischargedAtClose 2130 10800) = 288 ∧ rechargeHold class3 (dischargedAtClose 47 45) = 120
      ∧ rechargeHold class3 (dischargedAtRestore 1514850 1514940 180) = 720 := by decide

theorem test_due_minutes :
    let r := { fitting 3 [] with lastDuration := some 1000000, lastFunction := some 1480000 }
    dueMinute class3 r .duration = 1525600 ∧ eligibleFrom class3 r .duration = 1505440
      ∧ deadlineMinute class3 r .function = 1566400
      ∧ deadlineMinute class3 { r with shortInterval := true } .duration = 1305280
      ∧ dueMinute class3 { r with lastDuration := some 4294500000 } .duration = 4294967295 := by decide

theorem test_cover_limit : coverLimit 5 40 = 2 ∧ coverLimit 3 25 = 1 ∧ coverLimit 40 10 = 4 ∧ coverLimit 0 100 = 0 := by
  decide

/-! ### The planner -/

/-- R86, R87. -/
theorem test_sweep :
    result (.setSweep 1 0 0) State.reset = .clockUnset ∧ result (.setSweep 3 0 0) building = .outOfRange
      ∧ result .startSweep building = .wrongState
      ∧ (after .startSweep { building with planner := { building.planner with mode := .single } }).planner.phase
        = .visiting := by decide +kernel

/-- Chapter 12: the first visit of Monday 20:00 enters 500 for DURATION with deadline 1,556,040. -/
theorem test_visit :
    (after .visit visiting).planner.working = [{ index := 500, kind := .duration, requested := false, deadline := 1556040 }]
      ∧ (after .visit visiting).planner.cursor = 501 ∧ (after .visit visiting).planner.tally = 0 := by decide +kernel

/-- Chapter 12, the inspection pass: SINGLE returns to OFF with a PROGRAMME notice carrying STOPPED. -/
theorem test_completion :
    let s := { visiting with
      programme := { state := .stopped, resumeMinute := none }
      planner := { visiting.planner with mode := .single, cursor := 505 } }
    let t := after .passCompletion s
    t.planner.mode = .off ∧ t.planner.phase = .idle ∧ t.causeAt .programme = { pending := true, level := 0, carried := 0 }
      ∧ t.planner.published = [] := by decide +kernel

/-- R85: a completion that no dispatch phase follows leaves a trial position of 0 beside its all-NOT_TRIED list. -/
theorem test_completion_not_running :
    let s := { visiting with
      programme := { state := .suspended, resumeMinute := none }
      planner := { visiting.planner with cursor := 505, trialPosition := 5, published := [500, 501].map entry } }
    (after .passCompletion s).planner.trialPosition = 0 := by decide +kernel

/-- Chapter 12, Monday night, trial 1: 500 on channel 0, generation 1. -/
theorem test_trial_dispatches :
    let t := after .trial dispatching
    (t.planner.published[0]?).map (·.outcome) = some .dispatched ∧ (t.segmentAt 11).active = 1
      ∧ (t.zoneAt 40).uncovered = 1 ∧ (t.channelAt 0).generation = 1 ∧ (t.channelAt 0).runSeconds = 10800
      ∧ t.link.dispatch = [{ kind := .startDuration, channel := 0, generation := 1, segment := 11, address := 1 }] := by
  decide +kernel

/-- Chapter 12: trial 2 fails on its neighbour, trial 4 on the segment's cap before its neighbour. -/
theorem test_trial_outcomes :
    (testing 0).trialOutcome (entry 501).entry = .neighbour
      ∧ ({ testing 0 with segments := [(11, segment11 2)] }).trialOutcome (entry 503).entry = .segmentFull
      ∧ ({ testing 0 with zones := [(40, zone40 5 2)] }).trialOutcome (entry 503).entry = .zoneCover
      ∧ (testing 0).trialOutcome (entry 499).entry = .gone := by decide +kernel

/-! ### Channels and the link -/

/-- R122 and the second worked example of chapter 06: the ABORT stands behind the START. -/
theorem test_abort :
    let t := after (.abortTest 500) (testing 60)
    (t.channelAt 0).state = .aborting ∧ (t.channelAt 0).target = 120
      ∧ t.link.dispatch = [{ kind := .abort, channel := 0, generation := 1, segment := 11, address := 1 }]
      ∧ result (.abortTest 501) (testing 60) = .wrongState
      ∧ result (.abortTest 500) (answering .stopping .order 10800) = .noEffect := by decide +kernel

/-- R108. -/
theorem test_timing : (after (.setTiming 9) building).answerTime = 10 ∧ result (.setTiming 600) building = .done := by
  decide +kernel

/-- R112, R113: the tick that brings elapsed to the run seconds, then the expiry. -/
theorem test_run_expiry :
    let t := after .secondTick (testing 10799)
    let u := after (.runExpiry 0) t
    (t.channelAt 0).elapsed = 10800 ∧ (t.channelAt 0).target = 0 ∧ (u.channelAt 0).state = .stopping
      ∧ (u.channelAt 0).target = 120 ∧ u.link.dispatch.map (·.kind) = [.stop] := by decide +kernel

/-- R114 and R76: an unanswered STOP leaves the record RECHARGING with the hold of a full test. -/
theorem test_answer_expiry :
    let s := (answering .stopping .order 10920).setChannel 0
      { (answering .stopping .order 10920).channelAt 0 with target := 0 }
    let t := after (.answerExpiry 0) s
    (t.channelAt 0).state = .free ∧ shown t 500 = some (.recharging, [501], some 1514640)
      ∧ ((t.record? 500).bind (·.lastOutcome)).map (·.verdict) = some .noAnswer := by decide +kernel

/-- Chapter 07's stall: the answer time lowered to 60, the count at 60, the latch clear. -/
theorem test_stall :
    let s := { building with
      answerTime := 60
      link := { building.link with
        dispatch := [{ kind := .startFunction, channel := 2, generation := 4, segment := 5, address := 21 }]
        stallCount := 59 } }
    let t := after .stall (after .secondTick s)
    t.link.stallCount = 60 ∧ t.link.stallLatch = true ∧ (t.causeAt .linkStall).pending = true := by decide +kernel

/-- R138: the tick that brings both the head's stall count and its channel's answer timer to the end is taken first, so the
stall is raised although the close has withdrawn the head before it. -/
theorem test_stall_after_close :
    let s := { answering .ordered .order 0 with
      link := { building.link with
        dispatch := [{ kind := .startDuration, channel := 0, generation := 1, segment := 11, address := 1 }]
        stallCount := 119 } }
    let t := after (.answerExpiry 0)
      (after .secondTick (s.setChannel 0 { s.channelAt 0 with started := false, target := 1 }))
    t.link.dispatch = [] ∧ t.link.stallCount = 0 ∧ (after .stall t).link.stallLatch = true
      ∧ ((after .stall t).causeAt .linkStall).pending = true := by decide +kernel

/-- R129: in loopback the concentrator is shown the head order, UNCONFIGURED it is shown none. -/
theorem test_shown :
    let o : Order := { kind := .startDuration, channel := 1, generation := 1, segment := 11, address := 3 }
    let s := { building with link := { building.link with dispatch := [o], loopback := true } }
    let t := { s with link := { s.link with configured := false } }
    s.shownOrder = some { b0 := ⟨0x42, true⟩, b1 := ⟨0x1B, true⟩, b2 := ⟨0x03, true⟩ } ∧ t.shownOrder = none
      ∧ t.shownReportsFull = true ∧ t.shownMainsFull = true ∧ s.shownMainsFull = false := by decide +kernel

/-- R130, R145: loopback fills the inbound mailbox; a byte of eight ones carries check bit 1 under ODD. -/
theorem test_configure_link :
    let t := after (.configureLink 0 1 1) State.reset
    t.link.configured = true ∧ t.link.threshold = 16
      ∧ t.link.mainsBox = some { b0 := { data := 0xFF, check := true }, b1 := { data := 0xFF, check := true } } := by
  decide +kernel

/-- 10.4 and R134: START_DURATION, channel 1, generation 1, segment 11, address 3, bits 01 00001 0, 0001 1011 and
00000011, with ODD check bits 1, 1 and 1. -/
theorem test_order_take :
    let s := { building with link := { building.link with
      dispatch := [{ kind := .startDuration, channel := 1, generation := 1, segment := 11, address := 3 }]
      stallCount := 7, stallLatch := true } }
    let t := after .orderTake s
    t.line.order = some { b0 := ⟨0x42, true⟩, b1 := ⟨0x1B, true⟩, b2 := ⟨0x03, true⟩ } ∧ t.link.dispatch = []
      ∧ t.link.stallCount = 0 ∧ t.link.stallLatch = false := by decide +kernel

/-- R144, the rehearsal of chapter 07: START_FUNCTION channel 9, generation 8, address 36 is answered STARTED. -/
theorem test_loopback_take :
    let s := { building with link := { building.link with
      loopback := true
      dispatch := [{ kind := .startFunction, channel := 9, generation := 8, segment := 5, address := 36 }] } }
    (after .loopbackTake s).link.reports.map reportOf
      = [{ kind := 0, channel := 9, generation := 8, detail := 0, address := 36 }] := by decide +kernel

/-- A CUTOFF of channel 0, generation 1, address 1: bits 010 00000, 0001 0000, 00000001, ODD check bits 0, 0, 0. -/
def cutoff : QueueWord := { b0 := ⟨0x40, false⟩, b1 := ⟨0x10, false⟩, b2 := ⟨0x01, false⟩ }

/-- Chapter 12, Monday night: a CUTOFF after 6,000 seconds is FAIL_CUTOFF with permille 555, FAULTY, the segment's
active count down and the zone's uncovered count as it was. -/
theorem test_report_cutoff :
    let t := after .reportTake (after (.reportWrite cutoff) (testing 6000))
    ((t.record? 500).bind (·.lastOutcome)).map (fun o => (o.verdict, o.permille, o.measured))
        = some (.failCutoff, 555, 6000)
      ∧ shown t 500 = some (.faulty, [501], none) ∧ (t.segmentAt 11).active = 0 ∧ (t.zoneAt 40).uncovered = 1
      ∧ t.causeAt .faultFound = { pending := true, level := 0, carried := 500 } := by decide +kernel

/-- R115, R140: a report with a wrong check bit raises LINK_CHECK, one of another generation is stale. -/
theorem test_report_discarded :
    let bad := { testing 60 with link := { building.link with reports := [{ cutoff with b2 := ⟨0x01, true⟩ }] } }
    let old := { testing 60 with link := { building.link with reports := [{ cutoff with b1 := ⟨0x20, false⟩ }] } }
    ((after .reportTake bad).causeAt .linkCheck).pending = true
      ∧ ((after .reportTake old).causeAt .staleReport).pending = true
      ∧ ((after .reportTake old).channelAt 0).state = .running := by decide +kernel

/-! ### Mains, halts and the programme -/

/-- Chapter 12, Tuesday 23:30: the outage closes the test VOID AFTER_START, d = 30, hold 240. -/
theorem test_outage :
    let s := { testing 1800 with link := { building.link with mainsBox := some (boxWord .odd 0xF7FF#16) } }
    let t := after .mainsWordTake s
    (t.segmentAt 11).mains = .absent ∧ (t.segmentAt 11).outageStart = some 1513200 ∧ (t.channelAt 0).state = .free
      ∧ shown t 500 = some (.recharging, [501], some 1513440) ∧ marked t.attention.changeMap 11 = true
      ∧ (t.segmentAt 11).active = 0 := by decide +kernel

/-- Chapter 12, Wednesday 01:00: 90 outage minutes hold until 1,515,660; a later hold stands. -/
theorem test_restore :
    let s := { building with
      clock := { value := 1514940, isSet := true, seconds := 0 }
      luminaires := [(501, fitting 2 []), (502, { fitting 3 [] with state := .recharging, hold := some 1516261 })]
      zones := [(40, zone40 5 1)]
      segments := [(11, { segment11 0 with mains := .absent, outageStart := some 1514850 })] }
    let t := s.mainsAt 0xFFFF 11
    shown t 501 = some (.recharging, [], some 1515660) ∧ shown t 502 = some (.recharging, [], some 1516261)
      ∧ (t.zoneAt 40).uncovered = 2 ∧ (t.segmentAt 11).outageStart = none := by decide +kernel

/-- R143: a word written into a FULL mailbox is ignored. -/
theorem test_mains_word_write :
    let s := after (.mainsWordWrite (boxWord .odd 1#16)) building
    s.link.mainsBox = some (boxWord .odd 1#16)
      ∧ (after (.mainsWordWrite (boxWord .odd 2#16)) s).link.mainsBox = some (boxWord .odd 1#16) := by decide +kernel

/-- Chapter 12, Wednesday: HALT moves channel 0 to ABORTING by HALT and writes the word of segment 11; its take closes the
channel, 2,130 seconds giving a hold of 288, and ends the halt. -/
theorem test_halt :
    let s := after .halt (testing 2130)
    let t := after .haltTake s
    s.programme.state = .halting ∧ (s.channelAt 0).path = .halt ∧ (s.channelAt 0).target = 120
      ∧ s.link.haltBox = some 0x0800#16 ∧ t.programme.state = .stopped
      ∧ shown t 500 = some (.recharging, [501], some 1513488)
      ∧ t.causeAt .programme = { pending := true, level := 0, carried := 0 } := by decide +kernel

/-- R153 and the worked example of chapter 08: a second halt waits in the pending set behind a FULL mailbox. -/
theorem test_halt_segments :
    let s := after (.haltSegments 0x0020) building
    let t := after (.haltSegments 0x0004) s
    s.link.haltBox = some 0x0020#16 ∧ t.link.haltBox = some 0x0020#16 ∧ t.pendingHalt = 0x0004#16
      ∧ result (.haltSegments 0) building = .noEffect := by decide +kernel

/-- R159 to R161, and the exam morning of chapter 09: a second SUSPEND has no effect. -/
theorem test_programme :
    let s := after (.suspend 1 1505520) building
    result .start State.reset = .clockUnset ∧ s.programme = { state := .suspended, resumeMinute := some 1505520 }
      ∧ result (.suspend 1 1505600) s = .noEffect
      ∧ (after .resume s).programme = { state := .running, resumeMinute := none } := by decide +kernel

/-! ### The host port -/

/-- R171, R182. -/
theorem test_settings :
    (after (.setTurnaround 3) building).port.turnaround = 4 ∧ result (.setTurnaround 3) building = .doneClamped
      ∧ ((after (.setAttentionLevels [6, 6, 9, 2, 4, 4, 3, 0]) building).causeAt .mainsChange).level = 7
      ∧ result (.setAttentionLevels [6, 6, 7, 2, 4, 4, 3, 0]) building = .done := by decide +kernel

/-- The busy port of chapter 10: a RETIRE sent under BUSY is dropped, one of 3 argument bytes is MALFORMED. -/
theorem test_accept :
    let s := after (.accept [0x03, 0, 103] .whole) building
    s.busy = true ∧ (after (.accept [0x03, 0, 88] .whole) s).port.dropped = true
      ∧ (after (.accept [0x03, 0, 88, 0] .whole) building).port.lastResult = .malformed
      ∧ (after (.accept [0x03, 0, 88] .midByte) building).port.lastResult = .malformed
      ∧ (after (.accept [0x2F] .whole) s).clock.isSet = false := by decide +kernel

/-- R168: the execution of the action in hand clears BUSY; 95: RESET PART and the reset pin. -/
theorem test_execution :
    let s := after (.accept [0x03, 0x01, 0xF8] .whole) building
    (after (.retire 504) s).busy = false ∧ (after (.retire 504) s).record? 504 = none
      ∧ after .resetPart s = State.reset ∧ after .partReset s = State.reset := by decide +kernel

/-- R172: the first sampling shows DROPPED and clears it, a repetition does not; BUSY is bit 7. -/
theorem test_status :
    let s := after (.accept [0x03, 0, 88] .whole) (after (.accept [0x03, 0, 103] .whole) building)
    let t := after (.accept [0x03, 0, 88] .whole) (after .readStatus s)
    (after .readStatus s).port.output = [0xD4, 0, 0, 0] ∧ (after .readStatus s).port.dropped = false
      ∧ (after .statusRepetition (after .readStatus s)).port.output = [0x94, 0, 0, 0]
      ∧ t.port.dropped = true ∧ after .statusRepetition t = t := by decide +kernel

/-- R166: a part reset abandons the transaction in progress, a READ STATUS or an action on its way. -/
theorem test_abandoned :
    let s := after .partReset (after .readStatus building)
    after .statusRepetition s = s ∧ s.dataByte 0 = 0xFF ∧ after (.accept [0x20] .abandoned) s = s
      ∧ (after (.accept [0x20] .whole) s).port.inHand = some .start := by decide +kernel

/-- R170, R171: a READ ZONE under turnaround 2 sends four all-ones bytes before its data. -/
theorem test_bytes_before_take :
    let s := after (.setTurnaround 2) building
    let t := after (.readZone 40) s
    s.bytesBeforeTake 1 = 4 ∧ (List.range 6).map (t.sentByte 4) = [0xFF, 0xFF, 0xFF, 0xFF, 1, 6]
      ∧ t.sentByte 4 12 = 0xFF := by decide +kernel

/-- The morning of chapter 11: 1 outranks 4 and 8; OVERDUE stays pending. -/
theorem test_attention :
    let s := ((after (.setAttentionLevels [6, 6, 7, 2, 4, 4, 3, 0]) building).raise .staleReport 0).setOverdue 3
    let t := s.raise .faultFound 103
    (after .readAttention t).port.output = [1, 0, 103] ∧ (after .readAttention s).port.output = [4, 0, 3]
      ∧ (after .readAttention s).causeAt .overdue = s.causeAt .overdue
      ∧ (after .readAttention (s.setOverdue 0)).port.output = [8, 0, 0] ∧ (s.setOverdue 0).attentionLine = false := by
  decide +kernel

/-- R32, R16, R175: the clock, FIND ADDRESS, and a zone. -/
theorem test_table_reads :
    (after .readClock building).port.output = [0x00, 0x17, 0x16, 0xF0, 1, 0]
      ∧ (after (.findAddress 11 4) building).port.output = [0x01, 0xF7]
      ∧ (after (.findAddress 16 4) building).port.output = [0xFF, 0xFF]
      ∧ (after (.readZone 40) (testing 60)).port.output = [1, 6, 40, 0, 0, 5, 0, 1]
      ∧ (after (.readSegment 11) building).port.output = [1, 2, 0, 1, 0, 0, 0, 0, 0, 0] := by decide +kernel

/-- R41, R99, R109, R175: class 3, an undefined class, the night profile's Monday, channel 0's context, the candidates'
head. -/
theorem test_list_reads :
    (after (.readClass 3) building).port.output = [1, 0, 45, 0, 180, 0, 30, 1, 0x6D, 14, 30, 128, 0, 120, 5, 0xA0]
      ∧ (after (.readClass 4) building).port.output = List.replicate 16 0
      ∧ ((after (.readProfile 6) building).port.output).take 6 = [0xFF, 0xF0, 0, 0, 0, 0xFF]
      ∧ (after .readExceptions building).port.output = [0]
      ∧ ((after .readChannels (testing 6000)).port.output).take 14
        = [2, 0x01, 0xF4, 1, 1, 1, 0x2A, 0x30, 0x17, 0x70, 1, 0x12, 0xC0, 0]
      ∧ ((after .readCandidates dispatching).port.output).take 16
        = [2, 0, 0, 2, 0, 0, 5, 0x01, 0xF4, 1, 0, 0x00, 0x17, 0xBE, 0x48, 0] := by decide +kernel

/-- The walk of chapter 10 on zone 40 from 503: 503, 504, then around to 500. -/
theorem test_walk :
    let s := after (.walkZone 40 503) building
    let t := after .walkNextImage s
    let u := after .walkNextImage t
    s.port.output.take 3 = [0x01, 0xF7, 0] ∧ t.port.output.take 2 = [0x01, 0xF8] ∧ u.port.output.take 2 = [0x01, 0xF4]
      ∧ (after .walkEnd u).port.walk = none := by decide +kernel

/-- R173, R174: a FREE slot's image, a state with no member, a start index above 4,095. -/
theorem test_walk_ends :
    ((after (.readRecord 7) building).port.output).take 4 = [0, 7, 7, 0]
      ∧ (after (.walkState 4 0) building).port.output = List.replicate 48 0xFF
      ∧ (after (.readRecord 4096) building).port.output = List.replicate 48 0xFF := by decide +kernel

/-- The record image of 500 under test: state 2, segment 11, address 1, zone 40, class 3, no flags, one neighbour 501. -/
theorem test_image :
    (recordImage 500 { fitting 1 [501] with state := .testing }).take 14
      = [0x01, 0xF4, 2, 11, 1, 40, 3, 0, 0, 1, 0x01, 0xF5, 0xFF, 0xFF] := by decide +kernel

/-! ### A lawful state, for the statements about lawful states -/

/-- The building with much going on: 500 in a duration test on channel 0, 504 in one that a halt has marked on channel 1,
its START order still queued, 503 RECHARGING until 1,513,260, a halt word and a mains word in their mailboxes (segment 11
lost), the programme SUSPENDED until 1,513,260, a FAULT_FOUND pending, and the mains word's take waiting. -/
def campus : State :=
  { building with
    luminaires :=
      [(500, { fitting 1 [501] with state := .testing }), (501, fitting 2 [500, 502]), (502, fitting 3 [501, 503]),
        (503, { fitting 4 [502, 504] with state := .recharging, hold := some 1513260 }),
        (504, { fitting 5 [503] with state := .ordered })]
    zones := [(40, zone40 5 3)]
    segments := [(11, segment11 2)]
    exceptions := [{ start := 1513200, stop := 1513260, scope := .zone 40, opens := false }]
    channels :=
      [(0,
          { state := .running, index := 500, kind := .duration, generation := 1, started := true, runSeconds := 10800
            elapsed := 6000, role := .run, target := 4800, path := .order }),
        (1,
          { state := .aborting, index := 504, kind := .duration, generation := 1, started := false, runSeconds := 10800
            elapsed := 0, role := .answer, target := 120, path := .halt })]
    link :=
      { building.link with
        dispatch := [{ kind := .startDuration, channel := 1, generation := 1, segment := 11, address := 5 }]
        reports := [{ b0 := ⟨0x40, false⟩, b1 := ⟨0x10, false⟩, b2 := ⟨0x01, false⟩ }]
        haltBox := some 0x0800#16
        mainsBox := some (boxWord .odd 0xF7FF#16) }
    programme := { state := .suspended, resumeMinute := some 1513260 }
    attention := { causes := [(1, { pending := true, level := 6, carried := 500 })], changeMap := 0 }
    pending := [.mainsWordTake] }

theorem campus_canonical : campus.Canonical := by unfold State.Canonical; decide +kernel

theorem campus_records (P : Nat → Record → Prop) (h : ∀ e ∈ campus.luminaires, P e.1 e.2) :
    ∀ i r, campus.record? i = some r → P i r := Table.forall_at? h

theorem campus_channels (P : Nat → Channel → Prop) (h : ∀ e ∈ campus.channels, P e.1 e.2)
    (hd : ∀ k, P k Channel.reset) : ∀ k, P k (campus.channelAt k) := Table.forall_atD h hd

/-- Past the two bound channels every channel is at its part reset value. -/
theorem campus_channelAt (k : Nat) (h0 : k ≠ 0) (h1 : k ≠ 1) : campus.channelAt k = Channel.reset := by
  simp [State.channelAt, campus, Table.atD, Table.at?_cons, h0.symm, h1.symm]

theorem campus_zoneAt (z : Nat) (h : z ≠ 40) : campus.zoneAt z = Zone.reset := by
  simp [State.zoneAt, campus, Table.atD, Table.at?_cons, h.symm]

theorem campus_segmentAt (g : Nat) (h : g ≠ 11) : campus.segmentAt g = Segment.reset := by
  simp [State.segmentAt, campus, Table.atD, Table.at?_cons, h.symm]

theorem campus_classAt (c : Nat) (h : c ≠ 3) : campus.classAt c = ClassEntry.reset := by
  simp [State.classAt, campus, building, Table.atD, Table.at?_cons, h.symm]

theorem campus_countRecords (p : Record → Bool) (h : ∀ e ∈ campus.luminaires, p e.2 = false) :
    campus.countRecords p = 0 := by
  unfold State.countRecords
  rw [List.countP_eq_zero]
  intro e he; simp [h e he]

theorem campus_zone_of : ∀ e ∈ campus.luminaires, e.2.zone = 40 ∧ e.2.cls = 3 ∧ e.2.segment = 11 := by decide +kernel

theorem campus_register : campus.RegisterLaws where
  names := campus_records _ (by decide +kernel)
  zoneCounts := by
    intro z
    by_cases h : z = 40
    · subst h; decide +kernel
    · rw [campus_zoneAt z h, campus_countRecords, campus_countRecords]
      · exact ⟨rfl, rfl⟩
      all_goals intro e he; simp [(campus_zone_of e he).1, Ne.symm h]
  classUsers := by
    intro c
    by_cases h : c = 3
    · subst h; decide +kernel
    · rw [campus_classAt c h, campus_countRecords]
      · rfl
      · intro e he; simp [(campus_zone_of e he).2.1, Ne.symm h]
  lookup := by
    intro g a i ha
    constructor
    · intro h
      have hm := Table.mem_of_at? h
      simp only [campus, building, List.mem_cons, Prod.mk.injEq, List.not_mem_nil, or_false, locationKey] at hm
      rcases hm with h | h | h | h | h <;> obtain ⟨h, rfl⟩ := h
      · exact ⟨_, rfl, by change 11 = g; omega, by change 1 = a; omega⟩
      · exact ⟨_, rfl, by change 11 = g; omega, by change 2 = a; omega⟩
      · exact ⟨_, rfl, by change 11 = g; omega, by change 3 = a; omega⟩
      · exact ⟨_, rfl, by change 11 = g; omega, by change 4 = a; omega⟩
      · exact ⟨_, rfl, by change 11 = g; omega, by change 5 = a; omega⟩
    · rintro ⟨r, hr, rfl, rfl⟩
      exact campus_records (fun i r => campus.locate r.segment r.address = some i) (by decide +kernel) i r hr
  neighbours := by
    have h : ∀ i r, campus.record? i = some r →
        r.neighbours.Nodup ∧ r.neighbours.length ≤ 6 ∧ i ∉ r.neighbours
          ∧ ∀ n ∈ r.neighbours, (campus.record? n).any (fun q => decide (i ∈ q.neighbours)) = true :=
      campus_records _ (by decide +kernel)
    intro i r hr
    obtain ⟨h1, h2, h3, h4⟩ := h i r hr
    refine ⟨h1, h2, h3, fun n hn => ?_⟩
    have hi := h4 n hn
    cases hq : campus.record? n with
    | none => rw [hq] at hi; cases hi
    | some q => rw [hq] at hi; exact ⟨q, rfl, of_decide_eq_true hi⟩
  darkness := by
    have h : ∀ i r, campus.record? i = some r → ∀ n ∈ r.neighbours,
        (campus.record? n).all (fun q => !(r.state.inTest && q.state.inTest)) = true :=
      campus_records _ (by decide +kernel)
    intro i r n q hr hq hn
    have := h i r hr n hn
    rw [hq] at this
    rintro ⟨h1, h2⟩
    simp [h1, h2] at this
  holds := campus_records _ (by decide +kernel)

theorem campus_binding : campus.BindingLaw := by
  have hb : ∀ k, campus.bound k = true → k = 0 ∨ k = 1 := by
    intro k h
    by_contra hk
    rw [State.bound, campus_channelAt k (by omega) (by omega)] at h
    cases h
  refine ⟨fun k hk => campus_channelAt k (by omega) (by omega), fun k h => ?_, fun k j hk hj => ?_, fun i r hr ht => ?_,
    fun g => ?_⟩
  · obtain rfl | rfl := hb k h
    · exact ⟨_, rfl, rfl⟩
    · exact ⟨_, rfl, rfl⟩
  · obtain rfl | rfl := hb k hk <;> obtain rfl | rfl := hb j hj <;> decide +kernel
  · have h := campus_records
      (fun i r => r.state.inTest = true → (campus.channelAt 0).index = i ∨ (campus.channelAt 1).index = i)
      (by decide +kernel) i r hr ht
    rcases h with h | h
    · exact ⟨0, by decide +kernel, h⟩
    · exact ⟨1, by decide +kernel, h⟩
  · by_cases h : g = 11
    · subst h; decide +kernel
    · rw [campus_segmentAt g h, List.filter_eq_nil_iff.mpr]
      · rfl
      · intro k _ hk
        rw [Bool.and_eq_true] at hk
        obtain rfl | rfl := hb k hk.1 <;> exact h (beq_iff_eq.mp hk.2).symm

theorem campus_lawful : campus.Lawful where
  canonical := campus_canonical
  register := campus_register
  exceptions := by unfold State.ExceptionLaw; decide +kernel
  binding := campus_binding
  timers := by
    refine ⟨campus_binding.1, campus_channels (fun _ c => c.Lawful ∧ c.runSeconds ≤ 14400) ?_ ?_, fun c => ?_⟩
    · intro e he
      simp only [campus, building, List.mem_cons, List.not_mem_nil, or_false] at he
      rcases he with rfl | rfl
      · exact ⟨⟨rfl, rfl, rfl⟩, by decide⟩
      · exact ⟨rfl, by decide⟩
    · intro k; exact ⟨rfl, by decide⟩
    · by_cases h : c = 3
      · subst h; decide +kernel
      · rw [State.figures, campus_classAt c h]; decide
  queue := by
    refine ⟨campus_binding.1, by decide +kernel, fun k => ?_⟩
    by_cases h : k = 1
    · subst h; decide +kernel
    · have : (campus.link.dispatch.countP fun o => o.channel == k) = 0 := by
        simp [campus, building, Link.reset, Ne.symm h]
      omega
  candidates := by
    unfold State.CandidateLaw CandidateOrder
    exact ⟨by decide, by decide, by decide, by decide, by decide, nofun⟩
  programme := by unfold State.ProgrammeLaw; decide +kernel
  mains := by
    intro g
    by_cases h : g = 11
    · subst h; decide +kernel
    · rw [campus_segmentAt g h]; decide
  attention := by unfold State.AttentionLaw; decide +kernel
  port := ⟨nofun, nofun⟩
  ranges :=
    { clock := by decide +kernel
      timing := by decide +kernel
      threshold := by decide +kernel
      turnaround := by decide +kernel
      queues := by decide +kernel
      orders := by decide +kernel
      causes := fun c => by cases c <;> decide +kernel
      classes := Table.forall_atD (P := fun _ (e : ClassEntry) => e.InRange) (by decide +kernel) fun _ => by decide
      zones := Table.forall_atD (P := fun _ (z : Zone) => z.InRange) (by decide +kernel) fun _ => by decide
      segments := Table.forall_atD (P := fun _ (g : Segment) => g.InRange) (by decide +kernel) fun _ => by decide
      channels := campus_channels (fun _ c => c.InRange) (by decide +kernel) fun _ => by decide
      records := campus_records (fun _ r => r.InRange) (by decide +kernel)
      exceptions := by decide +kernel
      planner := by decide +kernel
      resumeMinute := by decide +kernel }

/-! ### Witnesses: for every statement with hypotheses, states and operands that meet them

Where a statement examines its conditions in order, a list of commands reaches each condition at a boundary value, and
the end of the list. -/

/-- Each command is ready in its state and ends there with its result: the result tells which of the conditions that
are examined in order was met. -/
def Reached (l : List (Instr × State × Result)) : Prop := ∀ e ∈ l, Ready e.1 e.2.1 ∧ result e.1 e.2.1 = e.2.2

/-- The building with nothing set in the clock. -/
def unset : State := { building with clock := { value := 0, isSet := false, seconds := 0 } }

/-- The building with 500 retire pending under test. -/
def retiring : State :=
  { testing 60 with
    luminaires :=
      [(500, { fitting 1 [501] with state := .testing, retirePending := true }), (501, fitting 2 [500, 502]),
        (502, fitting 3 [501, 503]), (503, fitting 4 [502, 504]), (504, fitting 5 [503])] }

/-- The building with a second class and zone, 500 and 504 under test, and 501 at its sixth neighbour. -/
def wider : State :=
  { testing 60 with
    luminaires :=
      [(500, { fitting 1 [501] with state := .testing }), (501, fitting 2 [500, 502, 600, 601, 602, 603]),
        (502, fitting 3 [501, 503]), (503, fitting 4 [502, 504]), (504, { fitting 5 [503] with state := .ordered })]
    classes := [(3, { figures := some class3, users := 5 }), (15, { figures := some class3, users := 0 })]
    zones := [(40, zone40 5 2), (255, zone40 0 0)] }

/-- A testing state whose last tick brought the run timer to 0. -/
def expiring : State := after .secondTick (testing 10799)

theorem witness_StepRunsFrontCommand : building.pending = [] := by decide +kernel

theorem witness_ExpiriesComeFirst :
    0 < expiring.answerTime ∧ expiring.calm = false ∧ 0 < (testing 60).answerTime ∧ (testing 60).calm = true
      ∧ (∀ k ∈ allChannels, Instr.readClock ≠ .runExpiry k ∧ Instr.readClock ≠ .answerExpiry k)
      ∧ Instr.readClock ≠ .stall := by decide +kernel

theorem witness_Actions :
    let s := { building with port := { building.port with inHand := some .startSweep } }
    (Ready (.retire 504) building ∧ (Instr.retire 504).isAction = true)
      ∧ (Ready (.setTurnaround 4) building ∧ (Instr.setTurnaround 4).isAction = true)
      ∧ (Ready .startSweep s ∧ s.calm = true ∧ s.port.inHand = some .startSweep ∧ Instr.startSweep ≠ .retire 504) := by
  unfold Ready; decide +kernel

theorem witness_PartReset :
    let s := { building with port := { building.port with inHand := some .startSweep } }
    building.calm = true ∧ building.busy = false ∧ s.calm = true ∧ s.busy = true ∧ ([0] : List Byte) ≠ []
      ∧ TransactionEnd.midByte ≠ .abandoned ∧ after .partReset building = State.reset := by
  decide +kernel

theorem witness_WeekSlots : 6 = 10079 / 1440 % 7 ∧ 28 % 30 ≠ 29 ∧ 0 % 30 ≠ 29 ∧ 10079 % 30 = 29 := by decide

/-- A first pass, at, just below and past the top of the minute count; an early window from minute 0 on; a half interval
of 2 and of 1. -/
theorem witness_DueMinutes :
    let r := { fitting 1 [] with lastDuration := some 4294441695, shortInterval := false }
    let f := { class3 with durationInterval := 2 }
    4294441695 + intervalDays class3 r.shortInterval .duration * 1440 = 4294967295
      ∧ 4294967295 < 4294441696 + intervalDays class3 r.shortInterval .duration * 1440
      ∧ r.lastPass .duration = some 4294441695 ∧ r.lastPass .function = none ∧ r.enrolMinute ≤ 4294967295
      ∧ 2 ≤ f.durationInterval ∧ { class3 with durationInterval := 1 }.durationInterval < 2
      ∧ class3.earlyWindow * 1440 ≤ dueMinute class3 r .duration
      ∧ dueMinute class3 { r with enrolMinute := 20159 } .function < class3.earlyWindow * 1440
      ∧ dueMinute class3 r .function + class3.grace * 1440 ≤ 4294967295
      ∧ 4294967295 < dueMinute class3 r .duration + class3.grace * 1440
      ∧ isOverdue class3 r .function (1512840 + 43200) = true
      ∧ isOverdue class3 r .function (1512840 + 43199) = false := by decide

theorem witness_CoverAndCapacity :
    (1 * 99 / 100 = 0 ∧ 1 * 100 / 100 ≠ 0 ∧ 4096 * 100 / 100 = 4096)
      ∧ Verdict.failCutoff ≠ .pass ∧ Verdict.failCutoff ≠ .passLow ∧ (0 : Nat) < 1 ∧ 10799 < 10800 ∧ 10800 ≤ 10800 := by
  decide

theorem witness_RechargeHolds :
    0 < class3.ratedDuration ∧ class3.rechargeMin ≤ class3.rechargeMax
      ∧ class3.rechargeMin < rechargeHold class3 30 ∧ rechargeHold class3 30 < class3.rechargeMax
      ∧ class3.rechargeMax * 16 ≤ 180 * class3.rechargeFactor ∧ 15 * class3.rechargeFactor ≤ class3.rechargeMin * 16
      ∧ (1000 : Nat) ≤ 1000 ∧ 1000 < 1001 ∧ 1180 - 1000 ≤ class3.ratedDuration
      ∧ class3.ratedDuration ≤ 1181 - 1000 := by decide

/-- A minute with an exception of the zone, of its profile alone, of the campus alone, and with none; 60 minutes of night
fit, the 601st does not. -/
theorem witness_CalendarJudgement :
    let zone : CalendarException := { start := 1513200, stop := 1513201, scope := .zone 40, opens := false }
    let profile : CalendarException := { start := 1513201, stop := 1513202, scope := .profile 6, opens := false }
    let whole : CalendarException := { start := 1513202, stop := 1513203, scope := .campus, opens := false }
    let s := { building with exceptions := [zone, profile, whole] }
    (zone ∈ s.exceptions ∧ zone.start ≤ 1513200 ∧ 1513200 < zone.stop ∧ zone.scope = .zone 40)
      ∧ (profile ∈ s.exceptions ∧ profile.start ≤ 1513201 ∧ 1513201 < profile.stop
        ∧ profile.scope = .profile (s.zoneAt 40).profile)
      ∧ (whole ∈ s.exceptions ∧ whole.start ≤ 1513202 ∧ 1513202 < whole.stop ∧ whole.scope = .campus)
      ∧ (∀ e ∈ s.exceptions, ¬(e.start ≤ 1513203 ∧ 1513203 < e.stop))
      ∧ (∀ e ∈ s.exceptions, e.start ≤ 1513201 ∧ 1513201 < e.stop → e.scope ≠ .zone 40)
      ∧ (∀ e ∈ s.exceptions, e.start ≤ 1513202 ∧ 1513202 < e.stop → e.scope = .campus)
      ∧ building.fits 40 1513200 600 = true ∧ building.fits 40 1513200 601 = false := by decide +kernel

theorem witness_Enrol :
    Reached
      [(.enrol 4096 11 6 40 3 0 [], building, .outOfRange), (.enrol 505 16 6 40 3 0 [], building, .outOfRange),
        (.enrol 505 11 6 40 16 0 [], building, .outOfRange), (.enrol 505 11 6 40 3 7 [], building, .outOfRange),
        (.enrol 505 11 6 40 3 1 [4096], building, .outOfRange), (.enrol 504 11 6 40 3 0 [], building, .slotInUse),
        (.enrol 505 11 6 40 15 0 [], building, .classUndefined), (.enrol 505 11 6 255 3 0 [], building, .zoneUndefined),
        (.enrol 505 11 5 40 3 0 [], building, .addressTaken), (.enrol 505 11 6 40 3 1 [4095], building, .neighbourInvalid),
        (.enrol 505 11 6 40 3 1 [505], building, .neighbourInvalid),
        (.enrol 505 11 6 40 3 2 [504, 504], building, .neighbourInvalid),
        (.enrol 505 11 6 40 3 1 [501], wider, .neighbourFull), (.enrol 505 11 6 40 3 1 [504], unset, .clockUnset),
        (.enrol 4095 15 255 40 3 1 [504], building, .done), (.enrol 0 0 0 40 3 0 [], building, .done)] := by
  unfold Reached Ready; decide +kernel

theorem witness_Amend :
    Reached
        [(.amend 4096 0 0 0 0 0 0 [], wider, .outOfRange), (.amend 500 1 16 0 0 0 0 [], wider, .outOfRange),
          (.amend 500 4 0 0 0 16 0 [], wider, .outOfRange), (.amend 500 8 0 0 0 0 7 [], wider, .outOfRange),
          (.amend 500 8 0 0 0 0 1 [4096], wider, .outOfRange), (.amend 4095 0 0 0 0 0 0 [], wider, .notEnrolled),
          (.amend 500 2 0 0 40 0 0 [], retiring, .wrongState), (.amend 500 1 15 255 0 0 0 [], wider, .inTest),
          (.amend 504 4 0 0 0 15 0 [], wider, .inTest), (.amend 502 4 0 0 0 14 0 [], wider, .classUndefined),
          (.amend 502 2 0 0 254 0 0 [], wider, .zoneUndefined), (.amend 502 1 11 5 0 0 0 [], wider, .addressTaken),
          (.amend 502 8 0 0 0 0 1 [505], wider, .neighbourInvalid), (.amend 502 8 0 0 0 0 1 [502], wider, .neighbourInvalid),
          (.amend 503 8 0 0 0 0 1 [501], wider, .neighbourFull), (.amend 500 8 0 0 0 0 1 [504], wider, .neighbourBusy),
          (.amend 502 15 11 3 40 3 2 [503, 501], wider, .noEffect), (.amend 502 0 0 0 0 0 0 [], wider, .noEffect),
          (.amend 502 1 15 255 0 0 0 [], wider, .done), (.amend 502 4 0 0 0 15 0 [], wider, .done),
          (.amend 500 2 0 0 255 0 0 [], wider, .done), (.amend 500 8 0 0 0 0 0 [], wider, .done),
          (.amend 502 15 15 255 255 15 2 [503, 504], wider, .done)]
      ∧ wider.record? 502 = some (fitting 3 [501, 503]) := by unfold Reached Ready; decide +kernel

theorem witness_RetireAndFree :
    Reached
        [(.retire 4096, retiring, .outOfRange), (.retire 4095, retiring, .notEnrolled), (.retire 500, retiring, .noEffect),
          (.retire 500, testing 60, .deferred), (.retire 504, testing 60, .done)]
      ∧ (testing 60).record? 504 = some (fitting 5 [503])
      ∧ (testing 60).record? 500 = some { fitting 1 [501] with state := .testing } := by
  unfold Reached Ready; decide +kernel

theorem witness_ClassCommands :
    Reached
      [(.writeClass 16 10 30 1 30 0 0 16 0 60, building, .outOfRange),
        (.writeClass 15 10 30 1 30 0 0 16 0 60, building, .done),
        (.writeClass 15 600 240 92 730 30 60 255 1440 4320, building, .done),
        (.writeClass 3 9 30 1 30 0 0 16 0 60, building, .doneClamped),
        (.writeClass 3 10 241 1 30 0 0 16 0 60, building, .doneClamped),
        (.writeClass 3 10 30 0 30 0 0 16 0 60, building, .doneClamped),
        (.writeClass 3 10 30 1 731 31 61 15 1441 59, building, .doneClamped),
        (.writeClass 3 10 30 1 30 0 0 16 61 60, building, .doneClamped), (.clearClass 16, wider, .outOfRange),
        (.clearClass 14, wider, .noEffect), (.clearClass 3, wider, .inUse), (.clearClass 15, wider, .done)] := by
  unfold Reached Ready; decide +kernel

theorem witness_ZoneAndSegmentCommands :
    Reached
      [(.writeZone 255 32 40, building, .outOfRange), (.writeZone 255 31 1, building, .done),
        (.writeZone 0 0 100, building, .done), (.writeZone 40 6 0, building, .doneClamped),
        (.writeZone 40 6 101, building, .doneClamped), (.setZoneHold 41 1, building, .zoneUndefined),
        (.setZoneHold 40 0, building, .noEffect), (.setZoneHold 40 255, building, .done),
        (.clearZone 41, building, .noEffect), (.clearZone 40, building, .inUse), (.clearZone 255, wider, .done),
        (.writeSegment 16 1 1, building, .outOfRange), (.writeSegment 15 1 1, building, .done),
        (.writeSegment 11 0 8, building, .done), (.writeSegment 11 1 0, building, .doneClamped),
        (.writeSegment 11 1 9, building, .doneClamped)] := by unfold Reached Ready; decide +kernel

theorem witness_RequestsRepairRevival :
    let asked := { building with luminaires := [(500, { fitting 1 [] with requested := some .function })] }
    let dark := { building with
      luminaires :=
        [(502, { fitting 3 [] with state := .faulty }), (503, { fitting 4 [] with state := .silent, noAnswer := 3 })]
      zones := [(40, zone40 5 2)] }
    Reached
        [(.requestTest 4096 0, asked, .outOfRange), (.requestTest 500 2, asked, .outOfRange),
          (.requestTest 4095 1, asked, .notEnrolled), (.requestTest 500 1, retiring, .wrongState),
          (.requestTest 500 0, asked, .noEffect), (.requestTest 500 1, asked, .done),
          (.requestTest 500 0, building, .done), (.cancelRequest 4096, asked, .outOfRange),
          (.cancelRequest 501, asked, .notEnrolled), (.cancelRequest 500, retiring, .wrongState),
          (.cancelRequest 500, building, .noEffect), (.cancelRequest 500, asked, .done),
          (.acceptRepair 4096, dark, .outOfRange), (.acceptRepair 504, dark, .notEnrolled),
          (.acceptRepair 503, dark, .noEffect), (.acceptRepair 502, dark, .done), (.revive 4096, dark, .outOfRange),
          (.revive 504, dark, .notEnrolled), (.revive 502, dark, .noEffect), (.revive 503, dark, .done)]
      ∧ asked.record? 500 = some { fitting 1 [] with requested := some .function }
      ∧ (Kind.function = .function ↔ (0 : Byte) = 0) ∧ (Kind.duration = .function ↔ (1 : Byte) = 0)
      ∧ dark.record? 502 = some { fitting 3 [] with state := .faulty }
      ∧ dark.record? 503 = some { fitting 4 [] with state := .silent, noAnswer := 3 } := by
  unfold Reached Ready; decide +kernel

/-- Each verdict with each of its details, and a no-answer count of 1 and of 2. -/
theorem witness_VerdictTable :
    let h : Closing := { kind := .duration, verdict := .pass, detail := none, elapsed := 60, run := 10800 }
    let r := { fitting 1 [] with state := .testing, noAnswer := 1 }
    let q := { r with noAnswer := 2 }
    let judged (x : Record) (v : Verdict) (d : Option Detail) := ((testing 60).judged x { h with verdict := v, detail := d }).state
    r.noAnswer < 2 ∧ 2 ≤ q.noAnswer ∧ judged r .pass none = .recharging ∧ judged r .passLow none = .recharging
      ∧ judged r .failCutoff none = .faulty ∧ judged r .failLamp none = .faulty
      ∧ judged r .refused (some .notCharged) = .ready ∧ judged r .refused (some .localTest) = .ready
      ∧ judged r .refused (some .notPresent) = .ready ∧ judged q .refused (some .notPresent) = .silent
      ∧ judged r .noAnswer (some .beforeStart) = .ready ∧ judged q .noAnswer (some .beforeStart) = .silent
      ∧ judged r .noAnswer (some .afterStart) = .recharging ∧ judged q .noAnswer (some .afterStart) = .silent
      ∧ judged r .void (some .beforeStart) = .ready ∧ judged r .void (some .afterStart) = .recharging := by
  decide +kernel

theorem witness_ClockAdvance :
    (campus.Canonical ∧ campus.ZoneCounts)
      ∧ campus.record? 503 = some { fitting 4 [502, 504] with state := .recharging, hold := some 1513260 }
      ∧ campus.record? 505 = none ∧ campus.record? 502 = some (fitting 3 [501, 503])
      ∧ (campus.planner.mode = .repeating ∧ campus.planner.phase = .idle) ∧ visiting.planner.phase ≠ .idle
      ∧ campus.programme = { state := .suspended, resumeMinute := some 1513260 } ∧ (1513260 : Nat) ≤ 1513260
      ∧ (1513259 : Nat) < 1513260 := by
  refine ⟨⟨campus_canonical, campus_register.zoneCounts⟩, ?_⟩
  decide +kernel

theorem witness_SetAndTrimClock :
    let stopped := { building with programme := { state := .stopped, resumeMinute := none } }
    let top := { stopped with clock := { value := 4294967280, isSet := true, seconds := 5 } }
    Reached
      [(.setClock 0, building, .wrongState), (.setClock 4294967295, stopped, .done), (.trimClock 1, unset, .clockUnset),
        (.trimClock 0, building, .noEffect), (.trimClock 30, building, .done), (.trimClock 0xE2, building, .done),
        (.trimClock 31, building, .doneClamped), (.trimClock 0x80, building, .doneClamped), (.trimClock 15, top, .done),
        (.trimClock 30, { top with clock := { value := 4294967295, isSet := true, seconds := 5 } }, .noEffect),
        (.trimClock 31, { top with clock := { value := 4294967295, isSet := true, seconds := 5 } }, .doneClamped)] := by
  unfold Reached Ready; decide +kernel

theorem witness_SecondTick :
    let s := { (testing 60) with
      link := { (testing 60).link with
        dispatch := [{ kind := .abort, channel := 0, generation := 1, segment := 11, address := 1 }] } }
    let clocked (value seconds : Nat) : State :=
      { s with clock := { value := value, isSet := true, seconds := seconds } }
    (∀ t ∈ [s, unset, clocked 1513200 58, clocked 1513200 59, clocked 4294967294 59, clocked 4294967295 59],
        t.Canonical ∧ t.calm = true)
      ∧ (s.channelAt 0).state ≠ .free ∧ (s.channelAt 1).state = .free
      ∧ (s.link.configured = true ∧ s.link.dispatch ≠ []) ∧ building.link.dispatch = [] := by
  unfold State.Canonical; decide +kernel

theorem witness_ProfileAndExceptionCommands :
    let e : CalendarException := { start := 1513300, stop := 1513400, scope := .zone 40, opens := false }
    let s := { building with exceptions := [e] }
    let full := { building with
      exceptions := (List.range 64).map fun n => { e with start := 1513300 + n, scope := .campus } }
    Reached
        [(.writeProfile 32 0, building, .outOfRange), (.writeProfile 31 1, building, .done),
          (.addException 1513300 1513400 3 40 0, s, .outOfRange), (.addException 1513300 1513400 1 32 0, s, .outOfRange),
          (.addException 1513300 1513400 2 40 2, s, .outOfRange), (.addException 1513400 1513400 2 40 0, s, .outOfRange),
          (.addException 1513300 1513400 2 40 0, s, .duplicate), (.addException 1513300 1513400 2 40 1, full, .listFull),
          (.addException 1513100 1513200 2 40 1, s, .noEffect), (.addException 1513300 1513400 2 255 1, s, .done),
          (.addException 1513200 1513201 1 31 1, s, .done), (.addException 0 1 0 7 0, unset, .done),
          (.dropException 1513300 1513400 3 40 0, s, .outOfRange), (.dropException 1513300 1513400 2 40 1, s, .notFound),
          (.dropException 1513300 1513400 2 40 0, s, .done)]
      ∧ s.exceptions.Pairwise (fun a b => a.start ≤ b.start) ∧ full.exceptions.length = 64 := by
  unfold Reached Ready; decide +kernel

theorem witness_SweepCommands :
    let single := { building with planner := { building.planner with mode := .single } }
    Reached
        [(.setSweep 3 0 0, building, .outOfRange), (.setSweep 2 2 0, building, .outOfRange),
          (.setSweep 1 0 0, unset, .clockUnset), (.setSweep 2 0 9, building, .noEffect), (.setSweep 2 1 255, building, .done),
          (.setSweep 0 0 0, building, .done), (.setSweep 0 0 0, visiting, .done), (.setSweep 0 0 0, dispatching, .done),
          (.setSweep 2 0 0, visiting, .done), (.startSweep, unset, .clockUnset), (.startSweep, building, .wrongState),
          (.startSweep, { visiting with planner := { visiting.planner with mode := .single } }, .inProgress),
          (.startSweep, single, .done)]
      ∧ visiting.planner.phase = .visiting ∧ dispatching.planner.phase = .dispatching := by
  unfold Reached Ready; decide +kernel

theorem witness_Visit :
    (visiting.Canonical ∧ visiting.calm = true ∧ visiting.planner.phase = .visiting)
      ∧ (visiting.record? 500 = some (fitting 1 [501]) ∧ visiting.planner.cursor ≤ 500
        ∧ visiting.planner.passScope = .all)
      ∧ (∀ j r, visiting.record? j = some r → ¬(visiting.planner.cursor ≤ j ∧ j < 500))
      ∧ building.planner.phase ≠ .visiting
      ∧ ∀ j r, { visiting with planner := { visiting.planner with cursor := 505 } }.record? j = some r → ¬505 ≤ j := by
  refine ⟨?_, by decide +kernel, Table.forall_at? (P := fun j _ => ¬(0 ≤ j ∧ j < 500)) (by decide +kernel),
    by decide +kernel, Table.forall_at? (P := fun j _ => ¬505 ≤ j) (by decide +kernel)⟩
  unfold State.Canonical; decide +kernel

/-- Each way a visited record stands: requested or not, each kind open or not, fitting the windows or not. -/
theorem witness_OfferedEntry :
    let noon := { building with clock := { value := 1512840, isSet := true, seconds := 0 } }
    let late := { building with clock := { value := 1513799, isSet := true, seconds := 0 } }
    let r := fitting 1 []
    let passed := { r with lastDuration := some 1513000 }
    let fresh := { passed with lastFunction := some 1513000 }
    let offered (s : State) (q : Record) := (s.entryFor 500 q).map (·.kind)
    (r.state = .ready ∧ r.hold = none ∧ (building.zoneAt r.zone).held = false)
      ∧ eligibleFrom class3 r .duration ≤ building.now ∧ eligibleFrom class3 r .function ≤ building.now
      ∧ ¬eligibleFrom class3 passed .duration ≤ building.now ∧ ¬eligibleFrom class3 fresh .function ≤ building.now
      ∧ building.fits 40 building.now (spanOf class3 .duration) = true
      ∧ noon.fits 40 noon.now (spanOf class3 .function) = false
      ∧ late.fits 40 late.now (spanOf class3 .duration) = false
      ∧ late.fits 40 late.now (spanOf class3 .function) = true
      ∧ offered building { r with requested := some .duration } = some .duration
      ∧ offered late { r with requested := some .duration } = none
      ∧ offered building { r with requested := some .function } = some .duration
      ∧ offered noon { fresh with requested := some .function } = some .function
      ∧ offered building r = some .duration ∧ offered late r = some .function ∧ offered noon r = none
      ∧ offered building passed = some .function ∧ offered noon passed = none ∧ offered building fresh = none := by
  decide +kernel

/-- A list of 15 entries and one of 16, and entries that tie with one of them on the requested mark and the deadline. -/
theorem witness_WorkingList :
    let one (i : Nat) : Candidate := { index := i, kind := .function, requested := false, deadline := 1000 }
    let list (n : Nat) := (List.range n).map fun i => one (2 * i + 1)
    CandidateOrder (list 15) ∧ CandidateOrder (list 16) ∧ (one 32).index ∉ (list 16).map (·.index)
      ∧ (one 0).index ∉ (list 16).map (·.index) ∧ (one 33).index ∉ (list 16).map (·.index)
      ∧ one 33 ∉ joinWorking (one 33) (list 16) ∧ one 31 ∉ joinWorking (one 0) (list 16) ∧ (one 0).index ≠ (one 1).index := by
  unfold CandidateOrder; decide +kernel

theorem witness_PassCompletion :
    let done := { visiting with planner := { visiting.planner with cursor := 505, tally := 1 } }
    let single := { done with
      planner := { done.planner with mode := .single }, programme := { state := .stopped, resumeMinute := none } }
    (done.Canonical ∧ done.calm = true ∧ done.planner.phase = .visiting ∧ done.programme.state = .running
        ∧ done.planner.mode ≠ .single)
      ∧ (single.Canonical ∧ single.calm = true ∧ single.programme.state ≠ .running ∧ single.planner.mode = .single)
      ∧ (∀ i r, done.record? i = some r → ¬done.planner.cursor ≤ i)
      ∧ building.planner.phase ≠ .visiting ∧ visiting.record? 500 = some (fitting 1 [501]) := by
  refine ⟨?_, ?_, Table.forall_at? (P := fun i _ => ¬505 ≤ i) (by decide +kernel), by decide +kernel, by decide +kernel⟩
  all_goals unfold State.Canonical; decide +kernel

/-- In its dispatch phase, a state with its trial at hand. -/
def trying (s : State) : State := { s with planner := dispatching.planner }

/-- Each check of a trial fails first in one of these states, and all pass in the last; the hypotheses of the phase, the
programme and the entry hold in all. -/
theorem witness_TrialRefusals :
    let bound (n : Nat) : Table Channel :=
      (List.range n).map fun k => (k, { Channel.reset with state := .ordered, role := .answer, target := 9 })
    let reported (n : Nat) := { building with
      link := { building.link with threshold := 8, reports := List.replicate n cutoff } }
    let l : List (State × TrialOutcome) :=
      [(reported 8, .backlog), (reported 7, .dispatched), ({ building with channels := bound 32 }, .noChannel),
        ({ building with channels := bound 31 }, .dispatched), (testing 60, .gone),
        ({ building with segments := [(11, { segment11 0 with enabled := false })] }, .segmentDown),
        ({ building with segments := [(11, { segment11 0 with mains := .unknown })] }, .segmentDown),
        ({ building with segments := [(11, segment11 2)] }, .segmentFull),
        ({ building with segments := [(11, segment11 1)] }, .dispatched),
        ({ building with zones := [(40, zone40 5 2)] }, .zoneCover),
        ({ building with zones := [(40, zone40 5 1)] }, .dispatched),
        ({ building with
            luminaires := [(500, fitting 1 [501]), (501, { fitting 2 [500] with state := .recharging })] },
          .neighbour)]
    (∀ e ∈ l,
        let s := trying e.1
        s.calm = true ∧ s.planner.phase = .dispatching ∧ s.programme.state = .running
          ∧ s.planner.published[s.planner.trialPosition]? = some (entry 500) ∧ s.trialOutcome (entry 500).entry = e.2)
      ∧ building.planner.phase ≠ .dispatching
      ∧ { dispatching with planner := { dispatching.planner with trialPosition := 5 } }.planner.published.length ≤ 5 := by
  decide +kernel

theorem witness_TrialDispatches :
    let late := { dispatching with
      channels := (List.range 31).map fun k => (k, { Channel.reset with state := .ordered, role := .answer, target := 9 }) }
    (dispatching.calm = true ∧ dispatching.planner.phase = .dispatching ∧ dispatching.programme.state = .running
        ∧ dispatching.planner.published[dispatching.planner.trialPosition]? = some (entry 500)
        ∧ dispatching.trialOutcome (entry 500).entry = .dispatched ∧ (dispatching.channelAt 0).state = .free
        ∧ dispatching.record? 500 = some (fitting 1 [501]))
      ∧ late.calm = true ∧ late.trialOutcome (entry 500).entry = .dispatched ∧ (late.channelAt 31).state = .free
      ∧ ∀ j, j < 31 → (late.channelAt j).state ≠ .free := by decide +kernel

theorem witness_TimingAndAbort :
    Reached
        [(.setTiming 9, building, .doneClamped), (.setTiming 10, building, .done), (.setTiming 600, building, .done),
          (.setTiming 601, building, .doneClamped), (.abortTest 4096, testing 60, .outOfRange),
          (.abortTest 4095, testing 60, .notEnrolled), (.abortTest 501, testing 60, .wrongState),
          (.abortTest 500, answering .stopping .order 10800, .noEffect),
          (.abortTest 500, answering .aborting .halt 60, .noEffect), (.abortTest 500, testing 60, .done)]
      ∧ ((testing 60).channelAt 0).state ≠ .free ∧ ((testing 60).channelAt 0).index = 500
      ∧ (testing 60).record? 500 = some { fitting 1 [501] with state := .testing } := by
  unfold Reached Ready; decide +kernel

theorem witness_Expiries :
    let due (state : ChannelState) (path : AbortPath) : Channel :=
      { (expiring.channelAt 0) with state := state, role := .answer, target := 0, path := path }
    let s (state : ChannelState) (path : AbortPath) : State := expiring.setChannel 0 (due state path)
    let stalled := { building with
      link := { building.link with
        dispatch := [{ kind := .abort, channel := 0, generation := 1, segment := 11, address := 1 }]
        stallCount := 120, stallDue := true } }
    ((expiring.channelAt 0).state = .running ∧ (expiring.channelAt 0).role = .run ∧ (expiring.channelAt 0).target = 0
        ∧ expiring.record? (expiring.channelAt 0).index = some { fitting 1 [501] with state := .testing })
      ∧ ((testing 10799).channelAt 0).target ≠ 0
      ∧ (∀ e ∈ [(ChannelState.ordered, AbortPath.order), (.stopping, .order), (.aborting, .order), (.aborting, .halt)],
        ((s e.1 e.2).channelAt 0).state = e.1 ∧ ((s e.1 e.2).channelAt 0).path = e.2
          ∧ ((s e.1 e.2).channelAt 0).role = .answer ∧ ((s e.1 e.2).channelAt 0).target = 0)
      ∧ building.link.stallDue = false ∧ stalled.link.stallDue = true := by decide +kernel

/-- A FAILED check, an unmatched report and a matched one. -/
theorem witness_ReportTake :
    let s (w : QueueWord) := { testing 60 with link := { building.link with reports := [w] } }
    let bad : QueueWord := { cutoff with b2 := ⟨0x01, true⟩ }
    let old : QueueWord := { cutoff with b1 := ⟨0x20, false⟩ }
    (s cutoff).calm = true ∧ building.link.reports = [] ∧ queueWordPasses .odd bad = false
      ∧ queueWordPasses .odd old = true ∧ (reportOf old).generation ≠ ((s old).channelAt 0).generation
      ∧ queueWordPasses .odd cutoff = true
      ∧ reportOf cutoff = { kind := 2, channel := 0, generation := 1, detail := 0, address := 1 }
      ∧ ((s cutoff).channelAt 0).state ≠ .free ∧ ((s cutoff).channelAt 0).generation = 1
      ∧ (s cutoff).record? ((s cutoff).channelAt 0).index = some { fitting 1 [501] with state := .testing } := by
  decide +kernel

theorem witness_ReportTable :
    (∀ e ∈ [ChannelState.free, .ordered, .running, .stopping, .aborting],
        ((answering e .order 60).channelAt 0).state = e ∧ ((answering e .order 60).channelAt 0).kind = .duration)
      ∧ (answering .ordered .order 0).record? ((answering .ordered .order 0).channelAt 0).index
        = some { fitting 1 [501] with state := .testing } := by decide +kernel

theorem witness_Close :
    let own : Order := { kind := .abort, channel := 0, generation := 1, segment := 11, address := 1 }
    let s (r : Record) (p : ProgrammeState) : State := { testing 60 with
      luminaires := [(500, r)], programme := { state := p, resumeMinute := none }
      link := { building.link with dispatch := [own, { own with generation := 2 }] } }
    let r := { fitting 1 [] with state := .testing }
    ((s r .running).record? ((s r .running).channelAt 0).index = some r ∧ ((s r .running).channelAt 0).state ≠ .free)
      ∧ r.retirePending = false
      ∧ (s { r with retirePending := true } .halting).record? 500 = some { r with retirePending := true }
      ∧ (∀ j, j < 32 → j ≠ 0 → ((s r .halting).channelAt j).state = .free)
      ∧ own.generation = ((s r .running).channelAt 0).generation
      ∧ ((s r .running).judged r { kind := .duration, verdict := .failCutoff, detail := none, elapsed := 60, run := 10800 }).state
        = .faulty
      ∧ ((s r .running).judged { r with noAnswer := 2 }
          { kind := .duration, verdict := .noAnswer, detail := some .beforeStart, elapsed := 0, run := 10800 }).state
        = .silent := by decide +kernel

theorem witness_ConfigureLink :
    let held := { State.reset with pendingHalt := 1#16 }
    Reached
      [(.configureLink 2 0 0, held, .outOfRange), (.configureLink 0 4 0, held, .outOfRange),
        (.configureLink 0 0 2, held, .outOfRange), (.configureLink 1 3 1, building, .wrongState),
        (.configureLink 1 3 1, held, .done), (.configureLink 0 0 0, State.reset, .done)] := by
  unfold Reached Ready; decide +kernel

theorem witness_LinkPort :
    let o : Order := { kind := .stop, channel := 31, generation := 15, segment := 15, address := 255 }
    let s (loop : Bool) (n : Nat) : State := { building with
      link := { building.link with loopback := loop, dispatch := [o], reports := List.replicate n cutoff } }
    (s false 0).calm = true ∧ ((s false 0).link.configured = true ∧ (s false 0).link.loopback = false)
      ∧ ((s true 63).link.loopback = true ∧ (s true 63).link.reports.length < 64 ∧ 64 ≤ (s true 64).link.reports.length)
      ∧ (s false 0).link.dispatch = [o] ∧ (s false 0).link.mainsBox = none ∧ building.link.dispatch = []
      ∧ (s false 63).link.reports.length < 64 ∧ ¬(s false 64).link.reports.length < 64
      ∧ State.reset.link.configured = false
      ∧ o.channel < 32 ∧ o.generation < 16 ∧ o.address < 256 := by decide +kernel

theorem witness_LinkWords :
    let p : Report := { kind := 7, channel := 31, generation := 15, detail := 15, address := 255 }
    let o : Order := { kind := .abort, channel := 31, generation := 15, segment := 15, address := 255 }
    bytePasses .odd ⟨0x07, false⟩ = true ∧ bytePasses .even ⟨0x07, true⟩ = true
      ∧ (p.kind < 8 ∧ p.channel < 32 ∧ p.generation < 16 ∧ p.detail < 16 ∧ p.address < 256)
      ∧ (o.channel < 32 ∧ o.generation < 16 ∧ o.segment < 16 ∧ o.address < 256)
      ∧ bytePasses .odd ⟨0xFF, true⟩ = true ∧ bytePasses .even ⟨0xFF, false⟩ = true := by decide

/-- Segment 11 is lost, the others are gained; both channels lie on segment 11. -/
theorem witness_MainsWordTake :
    (campus.calm = true ∧ campus.Lawful) ∧ campus.link.mainsBox = some (boxWord .odd 0xF7FF#16)
      ∧ boxWordPasses campus.link.sense (boxWord .odd 0xF7FF#16) = true
      ∧ boxWordPasses .even (boxWord .odd 0xF7FF#16) = false ∧ building.link.mainsBox = none
      ∧ ((mapOf (boxWord .odd 0xF7FF#16)).getLsbD 11 = false ∧ (campus.segmentAt 11).mains ≠ .absent)
      ∧ ((mapOf (boxWord .odd 0xF7FF#16)).getLsbD 15 = true ∧ (campus.segmentAt 15).mains ≠ .present)
      ∧ campus.bound 0 = true ∧ campus.bound 2 = false
      ∧ campus.record? (campus.channelAt 0).index = some { fitting 1 [501] with state := .testing }
      ∧ (campus.record? 505 = none ∧ campus.programme.state ≠ .halting)
      ∧ (∀ e ∈ [(Mains.unknown, 0), (.present, 11)], (campus.segmentAt e.2).mains = e.1)
      ∧ ((campus.outageEntry 11).segmentAt 11).mains = .absent := by
  refine ⟨⟨by decide +kernel, campus_lawful⟩, ?_⟩
  decide +kernel

theorem witness_Restore :
    campus.Canonical ∧ campus.record? 502 = some (fitting 3 [501, 503]) ∧ (fitting 3 [501, 503]).segment = 11
      ∧ campus.record? 503 = some { fitting 4 [502, 504] with state := .recharging, hold := some 1513260 }
      ∧ campus.record? 500 = some { fitting 1 [501] with state := .testing } ∧ campus.record? 505 = none :=
  ⟨campus_canonical, by decide +kernel⟩

theorem witness_HaltSegments :
    Reached [(.haltSegments 0, testing 60, .noEffect), (.haltSegments 0x0800, testing 60, .done),
        (.haltSegments 0x8001, campus, .done)]
      ∧ ((testing 60).channelAt 0).state = .running ∧ marked 0x0800#16 11 = true
      ∧ (testing 60).record? ((testing 60).channelAt 0).index = some { fitting 1 [501] with state := .testing }
      ∧ (testing 60).link.haltBox = none ∧ campus.link.haltBox = some 0x0800#16 := by
  unfold Reached Ready; decide +kernel

theorem witness_HaltTake :
    (campus.calm = true ∧ campus.Lawful) ∧ campus.link.haltBox = some 0x0800#16 ∧ campus.link.configured = true
      ∧ ((campus.channelAt 1).state = .aborting ∧ (campus.channelAt 1).path = .halt
        ∧ campus.record? (campus.channelAt 1).index = some { fitting 5 [503] with state := .ordered })
      ∧ (campus.channelAt 0).state ≠ .aborting ∧ campus.link.loopback = false ∧ building.link.haltBox = none := by
  refine ⟨⟨by decide +kernel, campus_lawful⟩, ?_⟩
  decide +kernel

theorem witness_StartSuspendResume :
    let stopped := { building with programme := { state := .stopped, resumeMinute := none } }
    Reached
      [(.start, building, .wrongState), (.start, { unset with programme := stopped.programme }, .clockUnset),
        (.start, { stopped with link := Link.reset }, .linkUnconfigured), (.start, stopped, .done),
        (.suspend 0 0, campus, .noEffect), (.suspend 0 7, building, .done), (.suspend 255 4294967295, building, .done),
        (.resume, building, .noEffect), (.resume, campus, .done)] := by
  unfold Reached Ready; decide +kernel

theorem witness_Halt :
    let halting := { testing 60 with programme := { state := .halting, resumeMinute := none } }
    Reached
        [(.halt, State.reset, .noEffect), (.halt, halting, .noEffect), (.halt, building, .done), (.halt, testing 60, .done),
          (.halt, campus, .done)]
      ∧ (∀ k, k < 32 → (building.channelAt k).state = .free) ∧ ((testing 60).channelAt 0).state ≠ .free
      ∧ 0 < ((testing 60).segmentAt 11).active ∧ (testing 60).link.haltBox = none ∧ campus.link.haltBox ≠ none := by
  unfold Reached Ready; decide +kernel

theorem witness_PortSettings :
    Reached
        [(.setTurnaround 0, building, .doneClamped), (.setTurnaround 1, building, .done), (.setTurnaround 2, building, .done),
          (.setTurnaround 3, building, .doneClamped), (.setTurnaround 4, building, .done),
          (.setTurnaround 5, building, .doneClamped), (.setAttentionLevels [0, 1, 2, 3, 4, 5, 6, 7], building, .done),
          (.setAttentionLevels [8, 0, 0, 0, 0, 0, 0, 255], building, .doneClamped)]
      ∧ ([8, 0, 0, 0, 0, 0, 0, 255] : List Byte).length = 8
      ∧ ([8, 0, 0, 0, 0, 0, 0, 255] : List Byte)[Cause.number .staleReport - 1]? = some 255 := by
  unfold Reached Ready; decide +kernel

theorem witness_Accept :
    let busy := { building with port := { building.port with inHand := some .startSweep } }
    building.calm = true ∧ busy.calm = true ∧ building.busy = false ∧ busy.busy = true ∧ codeClass 0x82 = .read 0
      ∧ codeClass 0x30 = .undefined ∧ codeClass 0x00 = .undefined ∧ codeClass 0x03 = .action 2
      ∧ ([0, 0] : List Byte).length = 2 ∧ ([0] : List Byte).length ≠ 2 ∧ TransactionEnd.whole ≠ .abandoned
      ∧ TransactionEnd.midByte ≠ .abandoned := by decide +kernel

theorem witness_ActionRoundTrip :
    let i := Instr.enrol 0xFFFF 255 255 255 255 255 [0xFFFF, 0xFFFF, 0xFFFF, 0xFFFF, 0xFFFF, 0xFFFF]
    (i.isAction = true ∧ i.wellFormed = true ∧ i ≠ .resetPart)
      ∧ (Instr.halt.isAction = true ∧ Instr.halt.wellFormed = true) ∧ building.calm = true ∧ building.busy = false
      ∧ decodeAction 0x1C [0x02, 0x58] = some (.setTiming 600) ∧ (List.replicate 42 (1 : Byte)).length = 42
      ∧ (List.replicate 42 (1 : Byte))[335 / 8]? = some 1 ∧ (List.replicate 8 (7 : Byte)).length = 8 := by decide +kernel

theorem witness_StatusReads :
    campus.calm = true ∧ campus.port.statusRead = false ∧ (after .readStatus campus).port.statusRead = true
      ∧ (after .readStatus campus).calm = true ∧ campus.link.reports.length ≤ 64
      ∧ { campus with link := { campus.link with reports := List.replicate 64 cutoff } }.link.reports.length ≤ 64 := by
  decide +kernel

/-- Two causes of one level and one of a lower, and nothing pending. -/
theorem witness_AttentionReads :
    let s := (((after (.setAttentionLevels [6, 6, 7, 2, 4, 4, 3, 0]) building).raise .silentFound 4095).raise
      .faultFound 500).setOverdue 3
    s.calm = true ∧ building.calm = true ∧ (∀ c ∈ Cause.all, (building.causeAt c).pending = false)
      ∧ (s.causeAt .faultFound).pending = true ∧ (s.causeAt .faultFound).carried ≤ 65535
      ∧ (∀ d ∈ Cause.all, (s.causeAt d).pending = true →
        (s.causeAt d).level < (s.causeAt .faultFound).level
          ∨ ((s.causeAt d).level = (s.causeAt .faultFound).level ∧ Cause.number .faultFound ≤ d.number))
      ∧ (s.causeAt .overdue).pending = true := by decide +kernel

theorem witness_TableReads :
    let busy := { building with port := { building.port with inHand := some .startSweep } }
    (busy.calm = true ∧ busy.busy = true) ∧ (campus.calm = true ∧ campus.busy = false ∧ campus.RangeLaw)
      ∧ unset.clock.isSet = false ∧ campus.clock.isSet = true ∧ campus.locate 11 5 = some 504
      ∧ campus.locate 15 255 = none ∧ (campus.classAt 3).figures = some class3 ∧ (campus.classAt 15).figures = none
      ∧ (15 < (16 : Byte).toNat ∧ (15 : Byte).toNat ≤ 15) := by
  refine ⟨by decide +kernel, ⟨by decide +kernel, by decide +kernel, campus_lawful.ranges⟩, ?_⟩
  decide +kernel

/-- The dispatching building's quantities lie in their ranges. -/
theorem dispatching_ranges : dispatching.RangeLaw where
  clock := by decide +kernel
  timing := by decide +kernel
  threshold := by decide +kernel
  turnaround := by decide +kernel
  queues := by decide +kernel
  orders := by decide +kernel
  causes := fun c => by cases c <;> decide +kernel
  classes := Table.forall_atD (P := fun _ (e : ClassEntry) => e.InRange) (by decide +kernel) fun _ => by decide
  zones := Table.forall_atD (P := fun _ (z : Zone) => z.InRange) (by decide +kernel) fun _ => by decide
  segments := Table.forall_atD (P := fun _ (g : Segment) => g.InRange) (by decide +kernel) fun _ => by decide
  channels := Table.forall_atD (P := fun _ (c : Channel) => c.InRange) (by decide +kernel) fun _ => by decide
  records := Table.forall_at? (P := fun _ (r : Record) => r.InRange) (by decide +kernel)
  exceptions := by decide +kernel
  planner := by decide +kernel
  resumeMinute := by decide +kernel

theorem witness_ListReads :
    (dispatching.calm = true ∧ dispatching.busy = false ∧ dispatching.RangeLaw)
      ∧ (campus.calm = true ∧ campus.busy = false ∧ campus.RangeLaw) ∧ campus.exceptions.length ≤ 64
      ∧ campus.exceptions[0]? = some { start := 1513200, stop := 1513260, scope := .zone 40, opens := false }
      ∧ dispatching.planner.published.length ≤ 16 ∧ dispatching.planner.published[4]? = some (entry 504)
      ∧ dispatching.planner.scope = .all := by
  refine ⟨⟨by decide +kernel, by decide +kernel, dispatching_ranges⟩,
    ⟨by decide +kernel, by decide +kernel, campus_lawful.ranges⟩, ?_⟩
  decide +kernel

theorem witness_RecordImage :
    campus.record? 503 = some { fitting 4 [502, 504] with state := .recharging, hold := some 1513260 }
      ∧ campus.NamesLaw ∧ campus.NeighbourLaw ∧ campus.RangeLaw :=
  ⟨by decide +kernel, campus_lawful.register.names, campus_lawful.register.neighbours, campus_lawful.ranges⟩

/-- A walk of zone 40 from 503: the members ahead of the start are nearest at 503, then 504, then around to 500. -/
theorem witness_Walks :
    let s := after (.walkZone 40 503) building
    (building.Canonical ∧ building.calm = true ∧ building.busy = false)
      ∧ building.record? 503 = some (fitting 4 [502, 504]) ∧ building.record? 505 = none ∧ (4095 : Nat) < 4096
      ∧ (∀ n q, building.record? n = some q → (503 + 4096 - 503) % 4096 ≤ (n + 4096 - 503) % 4096)
      ∧ (s.Canonical ∧ s.calm = true ∧ s.port.walk = some { filter := .zone 40, start := 503, next := 504 })
      ∧ (s.record? 504 = some (fitting 5 [503]) ∧ (504 + 4096 - 504) % 4096 < (503 + 4096 - 504) % 4096)
      ∧ (building.port.walk = none
        ∧ (after (.readRecord 4096) building).port.walk = some { filter := .all, start := 4096, next := 4096 }) := by
  refine ⟨?_, by decide +kernel, by decide +kernel, by decide,
    Table.forall_at? (P := fun n _ => (503 + 4096 - 503) % 4096 ≤ (n + 4096 - 503) % 4096) (by decide +kernel), ?_,
    by decide +kernel, by decide +kernel⟩
  all_goals unfold State.Canonical; decide +kernel

/-- The statements about every step of a lawful state: `campus` is lawful, and its step answers next. -/
theorem witness_steps : campus.Lawful ∧ ∃ t, step campus = .next t := ⟨campus_lawful, ⟨_, rfl⟩⟩

theorem witness_TablesStayCanonical : campus.Canonical ∧ ∃ t, step campus = .next t := ⟨campus_canonical, ⟨_, rfl⟩⟩

theorem witness_OnlyPartResetForgets :
    campus.clock.isSet = true ∧ campus.link.configured = true ∧ (campus.segmentAt 11).mains ≠ .unknown
      ∧ Instr.mainsWordTake ≠ .partReset ∧ Instr.mainsWordTake ≠ .resetPart
      ∧ Instr.mainsWordTake ≠ .accept [0x2F] .whole ∧ ∃ t, exec .mainsWordTake campus = .next t :=
  ⟨by decide +kernel, by decide +kernel, by decide +kernel, by decide, by decide, by decide, ⟨_, rfl⟩⟩

end Sys2Proof.Tests
end

section
/-! PROOF. The calendars (chapter 02): the week slot of a minute (R33), the entries that decide a minute for a zone
(R40, R42), and window fit (R43). -/

namespace Sys2Proof.Machine

/-! ### The week slot (R33) -/

theorem weekSlot_eq {m day : Nat} (h : day = m / 1440 % 7) : weekSlot m = day * 48 + m % 1440 / 30 := by
  rw [h, weekSlot]

theorem weekSlot_lt (m : Nat) : weekSlot m < 336 := by unfold weekSlot; omega

/-- The slot is the count of half hours since minute 0, within a week of 336. -/
theorem weekSlot_eq_halfHours (m : Nat) : weekSlot m = m / 30 % 336 := by unfold weekSlot; omega

theorem weekSlot_add_week (m : Nat) : weekSlot (m + 7 * 1440) = weekSlot m := by
  simp only [weekSlot_eq_halfHours]; omega

theorem weekSlot_succ_within {m : Nat} (h : m % 30 ≠ 29) : weekSlot (m + 1) = weekSlot m := by
  have sameHalfHour : (m + 1) / 30 = m / 30 := by omega
  simp only [weekSlot_eq_halfHours, sameHalfHour]

theorem weekSlot_succ_boundary {m : Nat} (h : m % 30 = 29) : weekSlot (m + 1) ≠ weekSlot m := by
  have nextHalfHour : (m + 1) / 30 = m / 30 + 1 := by omega
  simp only [weekSlot_eq_halfHours, nextHalfHour]; omega

/-! ### The entries gathered for a minute (R40; R42, step 1) -/

/-- An entry of the list with the scope `scope` covers the minute `m`. -/
def State.Covering (s : State) (m : Nat) (scope : ExceptionScope) (e : CalendarException) : Prop :=
  (e ∈ s.exceptions ∧ e.start ≤ m ∧ m < e.stop) ∧ e.scope = scope

/-- The entries that cover `m` and apply to zone `z`. -/
def State.gathered (s : State) (z m : Nat) : List CalendarException :=
  s.exceptions.filter fun e => e.covers m && e.appliesTo z (s.zoneAt z).profile

theorem State.effectiveOpen_eq (s : State) (z m : Nat) :
    s.effectiveOpen z m =
      if (s.gathered z m).isEmpty then slotOpen (s.profileAt (s.zoneAt z).profile) (weekSlot m)
      else (deciding (s.gathered z m)).all (·.opens) := rfl

namespace CalendarException

theorem covers_iff {e : CalendarException} {m : Nat} : e.covers m = true ↔ e.start ≤ m ∧ m < e.stop := by
  simp [covers]

theorem appliesTo_iff {e : CalendarException} {z p : Nat} :
    e.appliesTo z p = true ↔ e.scope = .zone z ∨ e.scope = .profile p ∨ e.scope = .campus := by
  unfold appliesTo; cases e.scope <;> simp

theorem isZone_iff {e : CalendarException} : e.isZone = true ↔ ∃ w, e.scope = .zone w := by
  unfold isZone; cases e.scope <;> simp

theorem isProfile_iff {e : CalendarException} : e.isProfile = true ↔ ∃ q, e.scope = .profile q := by
  unfold isProfile; cases e.scope <;> simp

end CalendarException

open CalendarException

section
variable {s : State} {z m : Nat} {e : CalendarException}

theorem State.mem_gathered_iff :
    e ∈ s.gathered z m ↔
      s.Covering m (.zone z) e ∨ s.Covering m (.profile (s.zoneAt z).profile) e ∨ s.Covering m .campus e := by
  simp only [State.gathered, State.Covering, List.mem_filter, Bool.and_eq_true, covers_iff, appliesTo_iff]
  tauto

theorem State.gathered_isZone_iff : e ∈ s.gathered z m ∧ e.isZone = true ↔ s.Covering m (.zone z) e := by
  rw [State.mem_gathered_iff, isZone_iff]
  constructor
  · rintro ⟨hzone | ⟨-, hscope⟩ | ⟨-, hscope⟩, w, hw⟩
    · exact hzone
    · simp [hscope] at hw
    · simp [hscope] at hw
  · exact fun h => ⟨.inl h, z, h.2⟩

theorem State.gathered_isProfile_iff :
    e ∈ s.gathered z m ∧ e.isProfile = true ↔ s.Covering m (.profile (s.zoneAt z).profile) e := by
  rw [State.mem_gathered_iff, isProfile_iff]
  constructor
  · rintro ⟨⟨-, hscope⟩ | hprofile | ⟨-, hscope⟩, q, hq⟩
    · simp [hscope] at hq
    · exact hprofile
    · simp [hscope] at hq
  · exact fun h => ⟨.inr (.inl h), _, h.2⟩

theorem State.gathered_any_zone_iff :
    (∃ e ∈ s.gathered z m, e.isZone = true) ↔ ∃ e, s.Covering m (.zone z) e :=
  exists_congr fun _ => State.gathered_isZone_iff

theorem State.gathered_any_profile_iff :
    (∃ e ∈ s.gathered z m, e.isProfile = true) ↔ ∃ e, s.Covering m (.profile (s.zoneAt z).profile) e :=
  exists_congr fun _ => State.gathered_isProfile_iff

/-- With no ZONE and no PROFILE entry gathered, what is gathered is the CAMPUS entries. -/
theorem State.mem_gathered_iff_campus (hz : ¬∃ e, s.Covering m (.zone z) e)
    (hp : ¬∃ e, s.Covering m (.profile (s.zoneAt z).profile) e) (e : CalendarException) :
    e ∈ s.gathered z m ↔ s.Covering m .campus e := by
  rw [State.mem_gathered_iff, or_iff_right (not_exists.mp hz e), or_iff_right (not_exists.mp hp e)]

end

/-! ### The entries that decide (R42, step 2) -/

section
variable {l : List CalendarException} {e : CalendarException}

theorem mem_deciding_of_zone (hz : ∃ x ∈ l, x.isZone = true) :
    e ∈ deciding l ↔ e ∈ l ∧ e.isZone = true := by
  rw [deciding, if_pos (List.any_eq_true.mpr hz), List.mem_filter]

theorem mem_deciding_of_profile (hz : ¬∃ x ∈ l, x.isZone = true) (hp : ∃ x ∈ l, x.isProfile = true) :
    e ∈ deciding l ↔ e ∈ l ∧ e.isProfile = true := by
  rw [deciding, if_neg (mt List.any_eq_true.mp hz), if_pos (List.any_eq_true.mpr hp), List.mem_filter]

theorem deciding_of_campus (hz : ¬∃ x ∈ l, x.isZone = true) (hp : ¬∃ x ∈ l, x.isProfile = true) :
    deciding l = l := by
  rw [deciding, if_neg (mt List.any_eq_true.mp hz), if_neg (mt List.any_eq_true.mp hp)]

end

/-! ### The effective state of a minute (R42, steps 3 and 4) -/

section
variable {s : State} {z m : Nat}

/-- Step 3: where the entries that decide are those of `P`, and there are some, the minute is OPEN exactly when all open. -/
theorem State.effectiveOpen_iff_of_deciding {P : CalendarException → Prop} (hsome : ∃ e, P e)
    (hP : ∀ e, e ∈ deciding (s.gathered z m) ↔ P e) :
    s.effectiveOpen z m = true ↔ ∀ e, P e → e.opens = true := by
  have hne : (s.gathered z m).isEmpty ≠ true := by
    intro hempty
    obtain ⟨e, he⟩ := hsome
    have hmem : e ∈ deciding [] := List.isEmpty_iff.mp hempty ▸ (hP e).mpr he
    simp [deciding] at hmem
  simp only [State.effectiveOpen_eq, if_neg hne, List.all_eq_true, hP]

theorem State.effectiveOpen_of_zone (hz : ∃ e, s.Covering m (.zone z) e) :
    s.effectiveOpen z m = true ↔ ∀ e, s.Covering m (.zone z) e → e.opens = true :=
  State.effectiveOpen_iff_of_deciding hz fun _ =>
    (mem_deciding_of_zone (State.gathered_any_zone_iff.mpr hz)).trans State.gathered_isZone_iff

theorem State.effectiveOpen_of_profile (hz : ¬∃ e, s.Covering m (.zone z) e)
    (hp : ∃ e, s.Covering m (.profile (s.zoneAt z).profile) e) :
    s.effectiveOpen z m = true ↔
      ∀ e, s.Covering m (.profile (s.zoneAt z).profile) e → e.opens = true :=
  State.effectiveOpen_iff_of_deciding hp fun _ =>
    (mem_deciding_of_profile (mt State.gathered_any_zone_iff.mp hz) (State.gathered_any_profile_iff.mpr hp)).trans
      State.gathered_isProfile_iff

theorem State.effectiveOpen_of_campus (hz : ¬∃ e, s.Covering m (.zone z) e)
    (hp : ¬∃ e, s.Covering m (.profile (s.zoneAt z).profile) e) (hc : ∃ e, s.Covering m .campus e) :
    s.effectiveOpen z m = true ↔ ∀ e, s.Covering m .campus e → e.opens = true := by
  have hall : deciding (s.gathered z m) = s.gathered z m :=
    deciding_of_campus (mt State.gathered_any_zone_iff.mp hz) (mt State.gathered_any_profile_iff.mp hp)
  exact State.effectiveOpen_iff_of_deciding hc fun e => by
    rw [hall, State.mem_gathered_iff_campus hz hp]

theorem State.effectiveOpen_of_slot (hz : ¬∃ e, s.Covering m (.zone z) e)
    (hp : ¬∃ e, s.Covering m (.profile (s.zoneAt z).profile) e) (hc : ¬∃ e, s.Covering m .campus e) :
    s.effectiveOpen z m = slotOpen (s.profileAt (s.zoneAt z).profile) (weekSlot m) := by
  have hnone : s.gathered z m = [] := List.eq_nil_iff_forall_not_mem.mpr fun e he =>
    hc ⟨e, (State.mem_gathered_iff_campus hz hp e).mp he⟩
  rw [State.effectiveOpen_eq, hnone, List.isEmpty_nil, if_pos rfl]

end

/-! ### Window fit (R43) -/

theorem State.fits_iff (s : State) (z t : Nat) {span : Nat} (hspan : 0 < span) :
    s.fits z t span = true ↔
      t + span - 1 ≤ 4294967295 ∧ ∀ m, t ≤ m → m ≤ t + span - 1 → s.effectiveOpen z m = true := by
  have hlast : t + span ≤ Config.maxMinute + 1 ↔ t + span - 1 ≤ 4294967295 := by
    unfold Config.maxMinute; omega
  simp only [State.fits, Bool.and_eq_true, decide_eq_true_eq, List.all_eq_true, List.mem_range, hlast]
  refine and_congr_right fun _ => ⟨fun h m hfirst hm => ?_, fun h d hd => h (t + d) (by omega) (by omega)⟩
  have hopen : s.effectiveOpen z (t + (m - t)) = true := h (m - t) (by omega)
  rwa [Nat.add_sub_cancel' hfirst] at hopen

end Sys2Proof.Machine

open Sys2Proof.Machine

/-- Settles O7: the slot counts half hours modulo the 336 of a week. -/
theorem weekSlots : Obligations.WeekSlots :=
  ⟨fun _ _ => weekSlot_eq, weekSlot_lt, weekSlot_add_week, rfl, fun _ => weekSlot_succ_within,
    fun _ => weekSlot_succ_boundary⟩

/-- Settles O11: R42's four steps in order of scope, then R43's fit and spans. -/
theorem calendarJudgement : Obligations.CalendarJudgement := by
  refine ⟨fun s z m => ⟨?zone, ?profile, ?campus, ?slot⟩, fun s z t _ => s.fits_iff z t, fun f => ⟨rfl, ?function⟩⟩
  case zone => exact State.effectiveOpen_of_zone
  case profile => exact State.effectiveOpen_of_profile
  case campus => exact State.effectiveOpen_of_campus
  case slot =>
    intro hz hp hc
    exact Bool.eq_iff_iff.mp (State.effectiveOpen_of_slot hz hp hc)
  case function => exact ceilDiv_spec f.functionLength (by decide)

end

section
/-! PROOF. Test arithmetic (chapter 03): the minutes of a kind (R46 to R50), the cover limit of a zone (R52), and the
capacity permille of a closed test (R56, R57). -/

namespace Sys2Proof.Machine

/-! ### Saturating sums (R45) -/

theorem satAdd_of_le {a b : Nat} (h : a + b ≤ 4294967295) : satAdd a b = a + b := Nat.min_eq_left h

theorem satAdd_of_gt {a b : Nat} (h : 4294967295 < a + b) : satAdd a b = 4294967295 := Nat.min_eq_right h.le

theorem satAdd_le (a b : Nat) : satAdd a b ≤ 4294967295 := Nat.min_le_right _ _

/-- Saturation takes nothing from a minute that was in range. -/
theorem le_satAdd {a : Nat} (b : Nat) (h : a ≤ 4294967295) : a ≤ satAdd a b := Nat.le_min.mpr ⟨Nat.le_add_right a b, h⟩

/-! ### Intervals (R46) -/

theorem intervalDays_short_half {f : Figures} (h : 2 ≤ f.durationInterval) :
    intervalDays f true .duration = f.durationInterval / 2 :=
  Nat.max_eq_right (Nat.div_pos h (by decide))

theorem intervalDays_short_one {f : Figures} (h : f.durationInterval < 2) : intervalDays f true .duration = 1 := by
  have nothingLeft : f.durationInterval / 2 = 0 := Nat.div_eq_of_lt h
  simp [intervalDays, nothingLeft]

/-! ### The minutes of a kind (R47 to R49) -/

section
variable {f : Figures} {r : Record} {k : Kind}

theorem dueMinute_of_pass {p : Nat} (h : r.lastPass k = some p) :
    dueMinute f r k = satAdd p (intervalDays f r.shortInterval k * 1440) := by
  simp only [dueMinute, h, Config.dayMinutes]

theorem dueMinute_of_noPass (h : r.lastPass k = none) : dueMinute f r k = r.enrolMinute := by
  simp only [dueMinute, h]

theorem dueMinute_le (h : r.enrolMinute ≤ 4294967295) : dueMinute f r k ≤ 4294967295 := by
  cases hp : r.lastPass k with
  | some p => exact dueMinute_of_pass hp ▸ satAdd_le _ _
  | none => exact dueMinute_of_noPass hp ▸ h

theorem eligibleFrom_add_window (h : f.earlyWindow * 1440 ≤ dueMinute f r k) :
    eligibleFrom f r k + f.earlyWindow * 1440 = dueMinute f r k := Nat.sub_add_cancel h

theorem eligibleFrom_eq_zero (h : dueMinute f r k < f.earlyWindow * 1440) : eligibleFrom f r k = 0 :=
  Nat.sub_eq_zero_of_le h.le

theorem eligibleFrom_le_deadlineMinute (h : r.enrolMinute ≤ 4294967295) :
    eligibleFrom f r k ≤ deadlineMinute f r k :=
  calc eligibleFrom f r k ≤ dueMinute f r k := Nat.sub_le _ _
    _ ≤ deadlineMinute f r k := le_satAdd _ (dueMinute_le h)

/-! ### Open and overdue (R50) -/

theorem isOpen_iff {now : Nat} : isOpen f r k now = true ↔ eligibleFrom f r k ≤ now := decide_eq_true_iff

theorem isOverdue_iff {now : Nat} : isOverdue f r k now = true ↔ deadlineMinute f r k ≤ now := decide_eq_true_iff

theorem isOpen_of_isOverdue {now : Nat} (h : r.enrolMinute ≤ 4294967295) (hlate : isOverdue f r k now = true) :
    isOpen f r k now = true :=
  isOpen_iff.mpr ((eligibleFrom_le_deadlineMinute h).trans (isOverdue_iff.mp hlate))

end

/-! ### The cover limit (R52) -/

theorem coverLimit_of_pos {n : Nat} (percent : Nat) (h : 0 < n) : coverLimit n percent = max 1 (n * percent / 100) :=
  if_neg h.ne'

theorem coverLimit_eq_one {n percent : Nat} (h : 0 < n) (hq : n * percent / 100 = 0) : coverLimit n percent = 1 := by
  rw [coverLimit_of_pos percent h, hq]; rfl

theorem coverLimit_eq_quotient {n percent : Nat} (h : 0 < n) (hq : n * percent / 100 ≠ 0) :
    coverLimit n percent = n * percent / 100 := by
  rw [coverLimit_of_pos percent h]
  exact Nat.max_eq_right (Nat.pos_of_ne_zero hq)

theorem one_le_coverLimit {n : Nat} (percent : Nat) (h : 0 < n) : 1 ≤ coverLimit n percent :=
  coverLimit_of_pos percent h ▸ Nat.le_max_left _ _

theorem coverLimit_le_population {n percent : Nat} (h : 0 < n) (hp : percent ≤ 100) : coverLimit n percent ≤ n := by
  have share : n * percent / 100 ≤ n := Nat.div_le_of_le_mul (by rw [Nat.mul_comm 100]; exact Nat.mul_le_mul_left n hp)
  exact coverLimit_of_pos percent h ▸ Nat.max_le.mpr ⟨h, share⟩

/-! ### The capacity permille (R56, R57) -/

section
variable {v : Verdict} {elapsed run : Nat}

theorem capacityPermille_of_notPass (hpass : v ≠ .pass) (hlow : v ≠ .passLow) :
    capacityPermille v elapsed run = min elapsed run * 1000 / run := by
  cases v with
  | pass => exact absurd rfl hpass
  | passLow => exact absurd rfl hlow
  | _ => rfl

theorem capacityPermille_full_or_share (v : Verdict) (elapsed run : Nat) :
    capacityPermille v elapsed run = 1000 ∨ capacityPermille v elapsed run = min elapsed run * 1000 / run := by
  cases v with
  | pass | passLow => exact .inl rfl
  | _ => exact .inr rfl

theorem capacityPermille_le (v : Verdict) (elapsed run : Nat) : capacityPermille v elapsed run ≤ 1000 := by
  rcases capacityPermille_full_or_share v elapsed run with full | share
  · exact full.le
  · rw [share]
    exact Nat.div_le_of_le_mul (Nat.mul_le_mul_right 1000 (Nat.min_le_right elapsed run))

/-- A test closed before the end of its run has at most what a test closed one second before the end has. -/
theorem capacityPermille_le_of_lt (hpass : v ≠ .pass) (hlow : v ≠ .passLow) (h : elapsed < run) :
    capacityPermille v elapsed run ≤ (run - 1) * 1000 / run := by
  rw [capacityPermille_of_notPass hpass hlow, Nat.min_eq_left h.le]
  exact Nat.div_le_div_right (Nat.mul_le_mul_right 1000 (Nat.le_sub_one_of_lt h))

theorem capacityPermille_lt_of_lt (hpass : v ≠ .pass) (hlow : v ≠ .passLow) (h : elapsed < run) :
    capacityPermille v elapsed run < 1000 := by
  rw [capacityPermille_of_notPass hpass hlow, Nat.min_eq_left h.le]
  exact Nat.div_lt_of_lt_mul (Nat.mul_lt_mul_of_pos_right h (by decide))

theorem capacityPermille_at_zero (hpass : v ≠ .pass) (hlow : v ≠ .passLow) : capacityPermille v 0 run = 0 := by
  rw [capacityPermille_of_notPass hpass hlow, Nat.zero_min, Nat.zero_mul, Nat.zero_div]

theorem capacityPermille_at_end (v : Verdict) (hrun : 0 < run) (h : run ≤ elapsed) :
    capacityPermille v elapsed run = 1000 := by
  rcases capacityPermille_full_or_share v elapsed run with full | share
  · exact full
  · rw [share, Nat.min_eq_right h, Nat.mul_div_cancel_left 1000 hrun]

end

end Sys2Proof.Machine

open Sys2Proof.Machine

/-- Settles O8: each minute of a kind through its own equations; an overdue kind is open, since eligible-from is at
most due, and due, which is in range as the enrol minute is, at most the deadline. -/
theorem dueMinutes : Obligations.DueMinutes := by
  refine ⟨fun f r k now => ⟨rfl, ?whole, ?half, ?one, fun p hp => ?pass, dueMinute_of_noPass, eligibleFrom_add_window,
    eligibleFrom_eq_zero, satAdd_of_le, satAdd_of_gt, isOpen_iff, isOverdue_iff⟩, fun _ _ _ _ => isOpen_of_isOverdue⟩
  case whole =>
    intro hnormal
    rw [hnormal]; rfl
  case half =>
    intro hshort h
    rw [hshort, intervalDays_short_half h]
  case one =>
    intro hshort h
    rw [hshort, intervalDays_short_one h]
  case pass =>
    rw [dueMinute_of_pass hp]
    exact ⟨satAdd_of_le, satAdd_of_gt⟩

/-- Settles O9: R52's limit by whether the quotient is 0, then the permille as full or the run's elapsed share. -/
theorem coverAndCapacity : Obligations.CoverAndCapacity := by
  refine ⟨⟨fun _ => rfl, fun _ _ => coverLimit_eq_one, fun _ _ => coverLimit_eq_quotient,
      fun _ percent hn hp => ⟨one_le_coverLimit percent hn, coverLimit_le_population hn hp⟩⟩,
    fun elapsed run hrun => ⟨rfl, rfl, fun _ => capacityPermille_of_notPass,
      fun v => capacityPermille_le v elapsed run, ?within, fun _ => capacityPermille_at_zero,
      fun v => capacityPermille_at_end v hrun⟩⟩
  case within =>
    intro v hpass hlow h
    exact ⟨capacityPermille_le_of_lt hpass hlow h, capacityPermille_lt_of_lt hpass hlow h⟩

end

section
/-! PROOF. The planner (chapter 05): eligibility (R94), the kind a visit chooses (R95), what it offers by the window fit
(R96) and the entry that holds it (R97). -/

namespace Sys2Proof.Machine

section
variable {s : State} {i : Nat} {r : Record} {k : Kind}

/-! ### Eligibility (R94) -/

theorem State.free_iff :
    s.free r = true ↔ r.state = .ready ∧ r.hold = none ∧ (s.zoneAt r.zone).held = false := by
  simp [State.free, and_assoc]

theorem State.kindOpen_iff : s.kindOpen r k = true ↔ eligibleFrom (s.figures r.cls) r k ≤ s.now := isOpen_iff

theorem State.eligible_iff :
    s.eligible r = true ↔
      r.state = .ready ∧ r.hold = none ∧ (s.zoneAt r.zone).held = false
        ∧ (eligibleFrom (s.figures r.cls) r .function ≤ s.now ∨ eligibleFrom (s.figures r.cls) r .duration ≤ s.now
          ∨ r.requested ≠ none) := by
  simp only [State.eligible, Bool.and_eq_true, Bool.or_eq_true, State.free_iff, State.kindOpen_iff,
    Option.isSome_iff_ne_none, and_assoc, or_assoc]

/-! ### The kind chosen (R95) -/

theorem State.chosenKind_of_open (hopen : s.kindOpen r .duration = true) : s.chosenKind r = .duration := by
  unfold State.chosenKind
  split
  case h_1 => rfl
  case h_2 | h_3 => exact if_pos hopen

theorem State.chosenKind_of_not_open (hreq : r.requested ≠ some .duration)
    (hopen : ¬s.kindOpen r .duration = true) : s.chosenKind r = .function := by
  unfold State.chosenKind
  split
  case h_1 hduration => exact absurd hduration hreq
  case h_2 | h_3 => exact if_neg hopen

/-! ### The kind offered (R96) -/

theorem State.offeredKind_of_requested_duration (hreq : r.requested = some .duration) :
    s.offeredKind r = if s.kindFits r .duration then some .duration else none := by
  simp only [State.offeredKind, hreq]

/-- A requested FUNCTION is never left without an offer, and no fit is asked of it. -/
theorem State.offeredKind_of_requested_function (hreq : r.requested = some .function) :
    s.offeredKind r =
      if s.kindOpen r .duration = true ∧ s.kindFits r .duration = true then some .duration else some .function := by
  by_cases hopen : s.kindOpen r .duration = true
  · simp only [State.offeredKind, hreq, State.chosenKind_of_open hopen, hopen, true_and]
  · have hchosen : s.chosenKind r = .function := State.chosenKind_of_not_open (by simp [hreq]) hopen
    rw [if_neg fun h => hopen h.1]
    simp only [State.offeredKind, hreq, hchosen]

theorem State.offeredKind_of_unrequested_open (hreq : r.requested = none)
    (hopen : s.kindOpen r .duration = true) :
    s.offeredKind r =
      if s.kindFits r .duration then some .duration
      else if s.kindOpen r .function = true ∧ s.kindFits r .function = true then some .function
      else none := by
  simp only [State.offeredKind, hreq, State.chosenKind_of_open hopen, Bool.and_eq_true]

theorem State.offeredKind_of_unrequested_not_open (hreq : r.requested = none)
    (hopen : ¬s.kindOpen r .duration = true) :
    s.offeredKind r = if s.kindFits r .function then some .function else none := by
  have hchosen : s.chosenKind r = .function := State.chosenKind_of_not_open (by simp [hreq]) hopen
  simp only [State.offeredKind, hreq, hchosen]

/-! ### The entry offered (R97) -/

theorem State.entryFor_of_not_eligible (h : ¬s.eligible r = true) : s.entryFor i r = none := if_neg h

theorem State.entryFor_of_eligible (h : s.eligible r = true) :
    s.entryFor i r =
      (s.offeredKind r).map fun k =>
        { index := i, kind := k, requested := r.requested.isSome
          deadline := deadlineMinute (s.figures r.cls) r k } := if_pos h

theorem State.entryFor_of_offered (h : s.eligible r = true) (hk : s.offeredKind r = some k) :
    s.entryFor i r =
      some { index := i, kind := k, requested := r.requested.isSome
             deadline := deadlineMinute (s.figures r.cls) r k } := by
  rw [State.entryFor_of_eligible h, hk, Option.map_some]

theorem State.entryFor_of_none_offered (h : s.eligible r = true) (hk : s.offeredKind r = none) :
    s.entryFor i r = none := by
  rw [State.entryFor_of_eligible h, hk, Option.map_none]

end

end Sys2Proof.Machine

open Sys2Proof.Machine

/-- Settles O25: R96's table by the requested field, then by the openness of DURATION and the fit of the kind chosen. -/
theorem offeredEntry : Obligations.OfferedEntry := by
  intro s i r f isOpen fits eligible offers
  have offered {k : Kind} (he : eligible) (hk : s.offeredKind r = some k) : offers k :=
    State.entryFor_of_offered (State.eligible_iff.mpr he) hk
  have noOffer (he : eligible) (hk : s.offeredKind r = none) : s.entryFor i r = none :=
    State.entryFor_of_none_offered (State.eligible_iff.mpr he) hk
  have openIff (k : Kind) : s.kindOpen r k = true ↔ isOpen k := State.kindOpen_iff
  refine ⟨fun he => State.entryFor_of_not_eligible (mt State.eligible_iff.mp he), ?durationFits, ?durationNoFit,
    ?functionLong, ?functionShort, ?openFits, ?openFallsBack, ?openNoFit, ?notOpenFits, ?notOpenNoFit⟩
  case durationFits =>
    exact fun he hreq hfit => offered he ((State.offeredKind_of_requested_duration hreq).trans (if_pos hfit))
  case durationNoFit =>
    exact fun he hreq hfit => noOffer he ((State.offeredKind_of_requested_duration hreq).trans (if_neg hfit))
  case functionLong =>
    intro he hreq hlong
    rw [← openIff] at hlong
    exact offered he ((State.offeredKind_of_requested_function hreq).trans (if_pos hlong))
  case functionShort =>
    intro he hreq hlong
    rw [← openIff] at hlong
    exact offered he ((State.offeredKind_of_requested_function hreq).trans (if_neg hlong))
  case openFits =>
    intro he hreq hopen hfit
    rw [← openIff] at hopen
    exact offered he ((State.offeredKind_of_unrequested_open hreq hopen).trans (if_pos hfit))
  case openFallsBack =>
    intro he hreq hopen hfit hshort hshortFit
    rw [← openIff] at hopen hshort
    exact offered he
      ((State.offeredKind_of_unrequested_open hreq hopen).trans ((if_neg hfit).trans (if_pos ⟨hshort, hshortFit⟩)))
  case openNoFit =>
    intro he hreq hopen hfit hshort
    rw [← openIff] at hopen hshort
    exact noOffer he
      ((State.offeredKind_of_unrequested_open hreq hopen).trans ((if_neg hfit).trans (if_neg hshort)))
  case notOpenFits =>
    intro he hreq hopen hfit
    rw [← openIff] at hopen
    exact offered he ((State.offeredKind_of_unrequested_not_open hreq hopen).trans (if_pos hfit))
  case notOpenNoFit =>
    intro he hreq hopen hfit
    rw [← openIff] at hopen
    exact noOffer he ((State.offeredKind_of_unrequested_not_open hreq hopen).trans (if_neg hfit))

end

section
/-! PROOF. The attention unit (chapter 11): the cause a READ ATTENTION returns (R181) and clears (R179, R180), the
attention line and the attention pending bit (R181), and the bytes of a read on the wire (R166, R170, R171). -/

namespace Sys2Proof.Machine

section
variable {s : State} {c : Cause}

/-! ### The cause chosen (R181) -/

theorem State.chosenCause_eq_none (hnone : ∀ x, (s.causeAt x).pending = false) : s.chosenCause = none := by
  have hfound := s.chosenCause_found
  cases hchosen : s.chosenCause with
  | none => rfl
  | some b =>
    rw [hchosen] at hfound
    obtain ⟨-, hb, -⟩ := hfound
    exact absurd (hnone b) (by simp [hb])

/-- Two causes that outrank each other have one level and one number. -/
theorem State.Outranks.unique {b : Cause} (hb : s.Outranks b fun _ => True) (hc : s.Outranks c fun _ => True) :
    b = c := by
  obtain ⟨-, hbp, hbmax⟩ := hb
  obtain ⟨-, hcp, hcmax⟩ := hc
  have hcb := hbmax c trivial hcp
  have hbc := hcmax b trivial hbp
  exact Cause.number_inj (by omega)

theorem State.chosenCause_eq_some (hc : s.Outranks c fun _ => True) : s.chosenCause = some c := by
  have hfound := s.chosenCause_found
  cases hchosen : s.chosenCause with
  | none =>
    rw [hchosen] at hfound
    obtain ⟨-, hpending, -⟩ := hc
    exact absurd (hfound c trivial) (by simp [hpending])
  | some b =>
    rw [hchosen] at hfound
    rw [State.Outranks.unique hfound hc]

/-! ### The bytes returned (R181) -/

theorem State.attentionData_of_none (h : s.chosenCause = none) : s.attentionData = [0, 0, 0] := by
  simp only [State.attentionData, h]; rfl

theorem State.attentionData_of_some (h : s.chosenCause = some c) :
    s.attentionData = byte c.number :: be2 (s.causeAt c).carried := by
  simp only [State.attentionData, h]

/-- The causes are numbered 1 to 8 in the order of R178, and a byte holds the number. -/
theorem Cause.number_byte (c : Cause) :
    (c, (byte c.number).toNat) ∈
      [(.faultFound, 1), (.silentFound, 2), (.mainsChange, 3), (.overdue, 4), (.linkCheck, 5), (.linkStall, 6),
        (.programme, 7), (Cause.staleReport, 8)] := by
  cases c <;> decide

theorem be2_toNat {n : Nat} (h : n ≤ 65535) : (byte (n / 256)).toNat * 256 + (byte n).toNat = n := by
  have hvalue : (byte (n / 256)).toNat * 256 + (byte n).toNat = bytesValue (be2 n) := by simp [bytesValue, be2]
  rw [hvalue, bytesValue_be2, Nat.mod_eq_of_lt (by omega)]

/-! ### The clearing of a cause by the read that returns it (R179, R180) -/

theorem Cause.isNotice_iff : c.isNotice = true ↔ c ≠ .overdue := by cases c <;> simp [Cause.isNotice]

theorem State.clearRead_overdue (s : State) : s.clearRead .overdue = s := rfl

theorem State.clearRead_notice (ho : c ≠ .overdue) (hm : c ≠ .mainsChange) :
    s.clearRead c = s.setCause c { s.causeAt c with pending := false, carried := 0 } := by
  rw [State.clearRead, if_pos (Cause.isNotice_iff.mpr ho)]
  exact if_neg hm

theorem State.clearRead_causes (h : c ≠ .overdue) (d : Cause) :
    (s.clearRead c).causeAt d = (s.setCause c { s.causeAt c with pending := false, carried := 0 }).causeAt d := by
  by_cases hm : c = .mainsChange
  · subst hm; rfl
  · rw [State.clearRead_notice h hm]

theorem State.clearRead_causeAt_self (h : c ≠ .overdue) :
    (s.clearRead c).causeAt c = { s.causeAt c with pending := false, carried := 0 } := by
  rw [State.clearRead_causes h, State.setCause_causeAt_self]

theorem State.clearRead_causeAt_other {d : Cause} (h : d ≠ c) : (s.clearRead c).causeAt d = s.causeAt d := by
  by_cases ho : c = .overdue
  · rw [ho, State.clearRead_overdue]
  · rw [State.clearRead_causes ho, State.setCause_causeAt, if_neg h.symm]

theorem State.clearRead_changeMap :
    (s.clearRead c).attention.changeMap = if c = .mainsChange then 0 else s.attention.changeMap := by
  cases c <;> rfl

theorem State.clearRead_frame : s.clearRead c = { s with attention := (s.clearRead c).attention } := by
  cases c <;> rfl

/-! ### The read (R170, R181) -/

/-- The read's own change of the port: its bytes are sampled, and a READ STATUS before it has ended. -/
def State.sampled (s : State) (bytes : List Byte) : State := s.leaveStatus.send bytes

theorem State.sampled_eq (s : State) (bytes : List Byte) :
    s.sampled bytes = { s with port := { s.port with output := bytes, statusRead := false } } := rfl

theorem exec_readAttention (h : s.calm = true) : exec .readAttention s = .next s.leaveStatus.sampleAttention := by
  have harm : exec .readAttention s = event (fun t => t.leaveStatus.sampleAttention) s := rfl
  rw [harm, event_calm h]

/-- A READ STATUS in progress has no part in the choice. -/
theorem State.leaveStatus_chosenCause (s : State) : s.leaveStatus.chosenCause = s.chosenCause := rfl

theorem exec_readAttention_of_none (h : s.calm = true) (hchosen : s.chosenCause = none) :
    exec .readAttention s = .next (s.sampled [0, 0, 0]) := by
  rw [← State.leaveStatus_chosenCause] at hchosen
  simp only [exec_readAttention h, State.sampleAttention, hchosen, State.attentionData_of_none hchosen]
  rfl

theorem exec_readAttention_of_some (h : s.calm = true) (hchosen : s.chosenCause = some c) :
    exec .readAttention s = .next ((s.sampled (byte c.number :: be2 (s.causeAt c).carried)).clearRead c) := by
  rw [← State.leaveStatus_chosenCause] at hchosen
  simp only [exec_readAttention h, State.sampleAttention, hchosen, State.attentionData_of_some hchosen]
  rfl

/-! ### The attention line and the attention pending bit (R181) -/

theorem State.attentionLine_iff :
    s.attentionLine = true ↔ ∃ x, (s.causeAt x).pending = true ∧ 1 ≤ (s.causeAt x).level := by
  simp [State.attentionLine, List.any_eq_true, Cause.mem_all]

theorem State.attentionPending_iff : s.attentionPending = true ↔ ∃ x, (s.causeAt x).pending = true := by
  simp [State.attentionPending, List.any_eq_true, Cause.mem_all]

/-! ### The bytes the part sends (R166, R170, R171) -/

theorem State.dataByte_past {n : Nat} (h : s.port.output.length ≤ n) : s.dataByte n = 0xFF :=
  List.getD_eq_default _ _ h

theorem State.dataByte_sampled {n : Nat} {b : Byte} (h : s.port.output[n]? = some b) : s.dataByte n = b := by
  rw [State.dataByte, List.getD_eq_getElem?_getD, h, Option.getD_some]

theorem State.sentByte_before {before n : Nat} (h : n < before) : s.sentByte before n = 0xFF := if_pos h

theorem State.sentByte_after (s : State) (before n : Nat) : s.sentByte before (before + n) = s.dataByte n := by
  rw [State.sentByte, if_neg (by omega), Nat.add_sub_cancel_left]

end

end Sys2Proof.Machine

open Sys2Proof.Machine

/-- Settles O48: the chosen cause is the one that outranks the others, and the read's state is its clearing on the state
with the bytes sampled; the line, the pending bit and the wire bytes by their equations. -/
theorem attentionReads : Obligations.AttentionReads := by
  refine ⟨fun s hcalm => ⟨?none, ?some⟩, fun s => ⟨State.attentionLine_iff, State.attentionPending_iff,
    fun _ => State.dataByte_past, fun _ _ => State.dataByte_sampled, fun count before hbefore => ⟨hbefore,
      fun t => ⟨fun _ => State.sentByte_before, t.sentByte_after before⟩⟩⟩⟩
  case none => exact fun hnone => exec_readAttention_of_none hcalm (State.chosenCause_eq_none hnone)
  case some =>
    intro c hpending hcarried houtranks
    have hchosen : s.chosenCause = some c :=
      State.chosenCause_eq_some ⟨trivial, hpending, fun d _ => houtranks d⟩
    refine completes_of_eq (exec_readAttention_of_some hcalm hchosen)
      ⟨⟨byte c.number, byte ((s.causeAt c).carried / 256), byte (s.causeAt c).carried, ?port, c.number_byte,
        be2_toNat hcarried⟩, ?condition, ?notice, ?others, State.clearRead_changeMap, ?frame⟩
    case port => rw [State.clearRead_frame]; rfl
    case condition =>
      rintro rfl
      rfl
    case notice => exact State.clearRead_causeAt_self
    case others => exact fun d hd => State.clearRead_causeAt_other hd
    case frame => rw [State.clearRead_frame]; rfl

end

section
/-! PROOF. The course a command takes (chapter 00, "Events and operations"): which are actions carried out at the port,
which are events, and which act without settling; and the invariants that follow when every course keeps them. -/

namespace Sys2Proof.Machine

/-! ### The course of a command -/

/-- What a command does with the state: an action's effect and result, an event's effect on the settled state, or an
effect of its own on the state as it stands. -/
inductive Course where
  | action (effect : State → State × Result)
  | event (effect : State → State)
  | own (effect : State → State)

/-- The read of a whole item, as an event. -/
def readEffect (data : State → State) (t : State) : State := t.leaveStatus.serve data

/-- The read of an item of fixed length, as an event. -/
def sampleEffect (data : State → List Byte) : State → State := readEffect fun t => t.send (data t)

/-- The course of every command (the arms of `exec`). -/
def course : Instr → Course
  | .enrol slot segment address zone cls count places =>
    .action (enrolEffect slot segment address zone cls count places)
  | .amend slot selection segment address zone cls count places =>
    .action (amendEffect slot selection segment address zone cls count places)
  | .retire slot => .action (retireEffect slot)
  | .writeClass cls fl rd fi di ew gr rf rmin rmax =>
    .action (writeClassEffect cls (carriedFigures fl rd fi di ew gr rf rmin rmax))
  | .clearClass cls => .action (clearClassEffect cls)
  | .writeZone zone profile percent => .action (writeZoneEffect zone profile percent)
  | .setZoneHold zone flag => .action (setZoneHoldEffect zone flag)
  | .clearZone zone => .action (clearZoneEffect zone)
  | .writeSegment segment enabled cap => .action (writeSegmentEffect segment enabled cap)
  | .requestTest slot kind => .action (requestTestEffect slot kind)
  | .cancelRequest slot => .action (cancelRequestEffect slot)
  | .acceptRepair slot => .action (acceptRepairEffect slot)
  | .revive slot => .action (reviveEffect slot)
  | .abortTest slot => .action (abortTestEffect slot)
  | .setClock minute => .action (setClockEffect minute)
  | .trimClock amount => .action (trimClockEffect amount)
  | .writeProfile profile slots => .action (writeProfileEffect profile slots)
  | .addException start stop scope index effect => .action (addExceptionEffect start stop scope index effect)
  | .dropException start stop scope index effect => .action (dropExceptionEffect start stop scope index effect)
  | .setSweep mode scope zone => .action (setSweepEffect mode scope zone)
  | .startSweep => .action startSweepEffect
  | .setTiming seconds => .action (setTimingEffect seconds)
  | .configureLink sense threshold loopback => .action (configureLinkEffect sense threshold loopback)
  | .haltSegments segments => .action (haltSegmentsEffect segments)
  | .start => .action startEffect
  | .suspend flag minute => .action (suspendEffect flag minute)
  | .resume => .action resumeEffect
  | .halt => .action haltEffect
  | .setTurnaround bytes => .action (setTurnaroundEffect bytes)
  | .setAttentionLevels levels => .action (setLevelsEffect levels)
  | .resetPart => .own State.partReset
  | .partReset => .own State.partReset
  | .accept bytes ending => .event fun t => t.leaveStatus.acceptTransaction bytes ending
  | .readStatus => .event State.sampleStatus
  | .statusRepetition => .event State.repeatStatus
  | .readAttention => .event fun t => t.leaveStatus.sampleAttention
  | .readClock => .event (sampleEffect State.clockData)
  | .readRecord start => .event (readEffect fun t => t.startRecordWalk start.toNat)
  | .walkZone zone start => .event (readEffect fun t => t.startWalk (.zone zone.toNat) start.toNat)
  | .walkState code start => .event (readEffect fun t => t.startWalk (.state code.toNat) start.toNat)
  | .walkNextImage => .event State.nextImage
  | .walkEnd => .event State.endWalk
  | .findAddress segment address => .event (sampleEffect fun t => t.findData segment.toNat address.toNat)
  | .readClass cls => .event (sampleEffect fun t => t.classData cls.toNat)
  | .readZone zone => .event (sampleEffect fun t => t.zoneData zone.toNat)
  | .readSegment segment => .event (sampleEffect fun t => t.segmentData segment.toNat)
  | .readProfile profile => .event (sampleEffect fun t => t.profileData profile.toNat)
  | .readExceptions => .event (sampleEffect State.exceptionData)
  | .readChannels => .event (sampleEffect State.channelData)
  | .readCandidates => .event (sampleEffect State.candidateData)
  | .secondTick => .event State.tick
  | .runExpiry channel => .own fun s => s.expireRun channel
  | .answerExpiry channel => .own fun s => s.expireAnswer channel
  | .stall => .own State.raiseStall
  | .visit => .event State.visitNext
  | .passCompletion => .event State.finishPass
  | .trial => .event State.runTrial
  | .orderTake => .event State.takeOrder
  | .loopbackTake => .event State.takeLoopback
  | .reportWrite word => .event (State.writeReport word)
  | .reportTake => .event State.takeReport
  | .mainsWordWrite word => .event (State.writeMains word)
  | .mainsWordTake => .event State.takeMains
  | .haltTake => .event State.takeHalt

/-- What a command answers by its course. -/
def Course.run (c : Instr) (s : State) : Course → Out
  | .action effect => carryOut c effect s
  | .event effect => Machine.event effect s
  | .own effect => .next (effect s)

theorem exec_eq_run (c : Instr) (s : State) : exec c s = (course c).run c s := by cases c <;> rfl

theorem exec_of_action {c : Instr} {effect : State → State × Result} (h : course c = .action effect) (s : State) :
    exec c s = carryOut c effect s := by rw [exec_eq_run, h]; rfl

theorem exec_of_event {c : Instr} {effect : State → State} (h : course c = .event effect) (s : State) :
    exec c s = .next (effect s.settle) := by rw [exec_eq_run, h]; rfl

theorem exec_of_own {c : Instr} {effect : State → State} (h : course c = .own effect) (s : State) :
    exec c s = .next (effect s) := by rw [exec_eq_run, h]; rfl

/-- A command is an action exactly where its course is one, RESET PART apart. -/
theorem course_of_isAction {c : Instr} (h : c.isAction = true) (hc : c ≠ .resetPart) :
    ∃ effect, course c = .action effect := by
  cases c with
  | resetPart => exact absurd rfl hc
  | _ => first | exact ⟨_, rfl⟩ | cases h

/-! ### Invariants -/

/-- Every end of a course leads from `Q`, what holds of a settled state, to `P`, what is to be kept. -/
def Course.Keeps (P Q : State → Prop) : Course → Prop
  | .action effect => ∀ s, Q s → P (effect s).1
  | .event effect => ∀ s, Q s → P (effect s)
  | .own effect => ∀ s, P s → P (effect s)

/-- What settling, the end of an action and every course keep, every command keeps. -/
theorem exec_keeps {P Q : State → Prop} (hsettle : ∀ s, P s → Q s.settle) (hfinish : ∀ s r, P s → P (s.finish r))
    (hdrop : ∀ s, Q s → P s.drop) {c : Instr} (hcourse : (course c).Keeps P Q) {s t : State} (hs : P s)
    (ht : exec c s = .next t) : P t := by
  rw [exec_eq_run] at ht
  cases hc : course c with
  | action effect =>
    rw [hc] at ht hcourse
    rcases carryOut_cases c effect s with h | h <;> cases h.symm.trans ht
    · exact hfinish _ _ (hcourse _ (hsettle s hs))
    · exact hdrop _ (hsettle s hs)
  | event effect =>
    rw [hc] at ht hcourse
    cases ht
    exact hcourse _ (hsettle s hs)
  | own effect =>
    rw [hc] at ht hcourse
    cases ht
    exact hcourse _ hs

/-- A step keeps what every command keeps, and what the queue of waiting commands has no part in. -/
theorem step_keeps {P : State → Prop} (hqueue : ∀ (s : State) l, P s → P { s with pending := l })
    (hexec : ∀ (c : Instr) (s t : State), P s → exec c s = .next t → P t) {s t : State} (hs : P s)
    (ht : step s = .next t) : P t := by
  unfold step at ht
  split at ht
  · exact hexec _ _ _ (hqueue s _ hs) ht
  · cases ht; exact hs

/-- A property that each round of a fold keeps, the fold keeps. -/
theorem foldl_keeps {α : Type} {P : State → Prop} {f : State → α → State} (h : ∀ s a, P s → P (f s a)) (l : List α)
    {s : State} (hs : P s) : P (l.foldl f s) :=
  List.foldlRecOn l f hs fun _ hb a _ => h _ a hb

end Sys2Proof.Machine

end

section
/-! PROOF. The canonical form of the tables (notes/assumptions/20.md) is kept by every operation of the model, hence by
every step. -/

namespace Sys2Proof.Machine

/-! ### Writing and removing one entry -/

section
variable {s : State} (h : s.Canonical)
include h

theorem canonical_setRecord (i : Nat) (r : Record) : (s.setRecord i r).Canonical := by
  obtain ⟨hrec, hrest⟩ := h
  exact ⟨Table.rising_store i r hrec, hrest⟩

theorem canonical_dropRecord (i : Nat) : (s.dropRecord i).Canonical := by
  obtain ⟨hrec, hrest⟩ := h
  exact ⟨Table.rising_remove i hrec, hrest⟩

theorem canonical_addLocation (g a i : Nat) : (s.addLocation g a i).Canonical := by
  obtain ⟨hrec, hlook, hrest⟩ := h
  exact ⟨hrec, Table.rising_store _ i hlook, hrest⟩

theorem canonical_removeLocation (g a : Nat) : (s.removeLocation g a).Canonical := by
  obtain ⟨hrec, hlook, hrest⟩ := h
  exact ⟨hrec, Table.rising_remove _ hlook, hrest⟩

theorem canonical_setClass (c : Nat) (e : ClassEntry) : (s.setClass c e).Canonical := by
  obtain ⟨hrec, hlook, hcls, hrest⟩ := h
  exact ⟨hrec, hlook, Table.canonical_put c e hcls, hrest⟩

theorem canonical_setZone (z : Nat) (e : Zone) : (s.setZone z e).Canonical := by
  obtain ⟨hrec, hlook, hcls, hzone, hrest⟩ := h
  exact ⟨hrec, hlook, hcls, Table.canonical_put z e hzone, hrest⟩

theorem canonical_setSegment (g : Nat) (e : Segment) : (s.setSegment g e).Canonical := by
  obtain ⟨hrec, hlook, hcls, hzone, hseg, hrest⟩ := h
  exact ⟨hrec, hlook, hcls, hzone, Table.canonical_put g e hseg, hrest⟩

theorem canonical_setChannel (k : Nat) (c : Channel) : (s.setChannel k c).Canonical := by
  obtain ⟨hrec, hlook, hcls, hzone, hseg, hchan, hrest⟩ := h
  exact ⟨hrec, hlook, hcls, hzone, hseg, Table.canonical_put k c hchan, hrest⟩

theorem canonical_setProfile (p : Nat) (v : Slots) : (s.setProfile p v).Canonical := by
  obtain ⟨hrec, hlook, hcls, hzone, hseg, hchan, hprof, hcause⟩ := h
  exact ⟨hrec, hlook, hcls, hzone, hseg, hchan, Table.canonical_put p v hprof, hcause⟩

theorem canonical_setCause (c : Cause) (v : CauseState) : (s.setCause c v).Canonical := by
  obtain ⟨hrec, hlook, hcls, hzone, hseg, hchan, hprof, hcause⟩ := h
  exact ⟨hrec, hlook, hcls, hzone, hseg, hchan, hprof, Table.canonical_put _ v hcause⟩

theorem canonical_tickChannels : s.tickChannels.Canonical := by
  obtain ⟨hrec, hlook, hcls, hzone, hseg, hchan, hrest⟩ := h
  exact ⟨hrec, hlook, hcls, hzone, hseg, Table.canonical_mapD _ hchan.1, hrest⟩

end

/-! ### The register and the flags -/

section
variable {s : State} (h : s.Canonical)
include h

theorem canonical_raise (c : Cause) (v : Nat) : (s.raise c v).Canonical := canonical_setCause h _ _

theorem canonical_transition (i : Nat) (b a : Record) : (s.transition i b a).Canonical :=
  canonical_setZone (canonical_setRecord h i a) _ _

theorem canonical_linkAll (i : Nat) (l : List Nat) : (s.linkAll i l).Canonical :=
  foldl_keeps (P := State.Canonical)
    (fun s n h => by unfold State.linkEnd; split; exacts [canonical_setRecord h _ _, h]) l h

theorem canonical_unlinkAll (i : Nat) (l : List Nat) : (s.unlinkAll i l).Canonical :=
  foldl_keeps (P := State.Canonical)
    (fun s n h => by unfold State.unlinkEnd; split; exacts [canonical_setRecord h _ _, h]) l h

theorem canonical_freeRecord (i : Nat) (r : Record) : (s.freeRecord i r).Canonical :=
  canonical_dropRecord
    (canonical_removeLocation (canonical_setClass (canonical_setZone (canonical_unlinkAll h i _) _ _) _ _) _ _) _

theorem canonical_applyVerdict (i : Nat) (r : Record) (x : Closing) : (s.applyVerdict i r x).Canonical := by
  unfold State.applyVerdict State.noticeEntry
  simp only
  split
  · exact canonical_raise (canonical_transition h _ _ _) _ _
  · exact canonical_raise (canonical_transition h _ _ _) _ _
  · exact canonical_transition h _ _ _

end

/-! ### The channels and the link -/

section
variable {s : State} (h : s.Canonical)
include h

theorem canonical_queueOrder (kind : OrderKind) (k : Nat) : (s.queueOrder kind k).Canonical := by
  rw [State.queueOrder_frame]; exact h

theorem canonical_haltEnd : s.haltEnd.Canonical := by
  unfold State.haltEnd
  split
  · exact canonical_raise h _ _
  · exact h

theorem canonical_registerClose (c : Channel) (v : Verdict) (d : Option Detail) :
    (s.registerClose c v d).Canonical := by
  unfold State.registerClose
  split
  · refine canonical_setSegment ?_ _ _
    split
    · exact canonical_freeRecord h _ _
    · exact canonical_applyVerdict h _ _ _
  · exact h

theorem canonical_close (k : Nat) (v : Verdict) (d : Option Detail) : (s.close k v d).Canonical :=
  canonical_haltEnd
    (canonical_setChannel (s := (s.registerClose _ v d).withdraw k _) (canonical_registerClose h _ v d) _ _)

theorem canonical_closeVoid (k : Nat) : (s.closeVoid k).Canonical := canonical_close h _ _ _

theorem canonical_writeHaltWord : s.writeHaltWord.Canonical := by
  rw [State.writeHaltWord_frame]; exact h

theorem canonical_haltMark (m : SegMap) : (s.haltMark m).Canonical :=
  foldl_keeps (P := State.Canonical)
    (fun s k h => by unfold State.haltMarkAt; split; exacts [canonical_setChannel h _ _, h]) _ h

theorem canonical_joinHalt (m : SegMap) : (s.joinHalt m).Canonical := by
  refine canonical_writeHaltWord (canonical_haltMark ?_ m)
  exact h

theorem canonical_expireRun (k : Nat) : (s.expireRun k).Canonical := by
  unfold State.expireRun
  split
  · exact canonical_queueOrder (canonical_setChannel h _ _) _ _
  · exact h

theorem canonical_expireAnswer (k : Nat) : (s.expireAnswer k).Canonical := by
  unfold State.expireAnswer
  split
  · unfold State.answerClose
    simp only
    split
    · exact canonical_close h _ _ _
    · exact canonical_close h _ _ _
    · split
      · exact canonical_raise (canonical_closeVoid h k) _ _
      · exact canonical_closeVoid h k
    · exact h
  · exact h

theorem canonical_raiseStall : s.raiseStall.Canonical := by
  unfold State.raiseStall
  split
  · exact canonical_raise h _ _
  · exact h

theorem canonical_settle : s.settle.Canonical := by
  unfold State.settle
  split
  · exact h
  · exact foldl_keeps (P := State.Canonical) (f := State.expire)
      (fun _ k h => canonical_expireRun (canonical_expireAnswer h k) k) _ (canonical_raiseStall h)

theorem canonical_startMark (i : Nat) : (s.startMark i).Canonical := by
  unfold State.startMark
  split
  · exact canonical_transition h _ _ _
  · exact h

theorem canonical_judgeReport (k : Nat) (kind : ReportKind) (d : Nat) : (s.judgeReport k kind d).Canonical := by
  unfold State.judgeReport
  split
  · exact canonical_startMark (canonical_setChannel h _ _) _
  all_goals first | exact canonical_close h _ _ _ | exact canonical_raise h _ _

theorem canonical_takeReport : s.takeReport.Canonical := by
  unfold State.takeReport
  split
  · exact h
  next w rest _ =>
    simp only
    split
    · unfold State.receiveReport
      split
      · split
        · refine canonical_judgeReport ?_ _ _ _; exact h
        · exact canonical_raise h _ _
      · exact canonical_raise h _ _
    · exact canonical_raise h _ _

theorem canonical_takeOrder : s.takeOrder.Canonical := by
  unfold State.takeOrder
  split
  · exact h
  · split <;> exact h

theorem canonical_takeLoopback : s.takeLoopback.Canonical := by
  unfold State.takeLoopback
  split
  · exact h
  · split <;> exact h

end

/-! ### Mains and halts -/

section
variable {s : State} (h : s.Canonical)
include h

theorem canonical_mainsTransition (g : Nat) (m : Mains) (o : Option Nat) : (s.mainsTransition g m o).Canonical :=
  canonical_setCause (s := { s.setSegment g _ with attention := { s.attention with changeMap := _ } })
    (canonical_setSegment h g { s.segmentAt g with mains := m, outageStart := o }) _ _

theorem canonical_outageEntry (g : Nat) : (s.outageEntry g).Canonical :=
  foldl_keeps (P := State.Canonical)
    (fun s k h => by unfold State.outageAt; split; exacts [canonical_closeVoid h k, h]) _
    (canonical_mainsTransition h _ _ _)

theorem canonical_outageHolds (g o : Nat) : (s.outageHolds g o).Canonical := by
  refine foldl_keeps (P := State.Canonical) (fun s e h => ?_) _ h
  unfold State.outageHold
  split
  · split
    · exact canonical_transition h _ _ _
    · exact h
  · exact h

theorem canonical_mainsAt (m : SegMap) (g : Nat) : (State.mainsAt m s g).Canonical := by
  unfold State.mainsAt
  split
  · exact canonical_mainsTransition h _ _ _
  · exact canonical_outageEntry h _
  · exact canonical_outageEntry h _
  · exact canonical_outageHolds (canonical_mainsTransition h _ _ _) _ _
  · exact h
  · exact h

theorem canonical_takeMains : s.takeMains.Canonical := by
  unfold State.takeMains
  split
  · exact h
  · simp only
    split
    · exact foldl_keeps (P := State.Canonical) (fun _ g h => canonical_mainsAt h _ g) _ h
    · exact canonical_raise h _ _

theorem canonical_takeHalt : s.takeHalt.Canonical := by
  unfold State.takeHalt
  split
  · exact h
  · split
    · refine canonical_writeHaltWord (foldl_keeps (P := State.Canonical) (fun s k h => ?_) _ h)
      unfold State.haltTakeAt
      split
      · exact canonical_closeVoid h k
      · exact h
    · exact h

end

/-! ### The clock -/

section
variable {s : State} (h : s.Canonical)
include h

theorem canonical_releaseHolds (v : Nat) : (s.releaseHolds v).Canonical := by
  refine foldl_keeps (P := State.Canonical) (fun s e h => ?_) _ h
  unfold State.releaseHold
  split
  · split
    · exact canonical_transition h _ _ _
    · exact h
  · exact h

theorem canonical_clockAdvance (v : Nat) : (s.clockAdvance v).Canonical := by
  have hplanner : (((s.releaseHolds v).expireExceptions v).advancePlanner).Canonical := by
    unfold State.advancePlanner
    split <;> exact canonical_releaseHolds h v
  unfold State.clockAdvance State.timedResume
  split
  · split
    · exact canonical_raise hplanner _ _
    · exact hplanner
  · exact hplanner

theorem canonical_tick : s.tick.Canonical := by
  have hclock : s.tickClock.Canonical := by
    unfold State.tickClock
    split
    · split
      · refine canonical_clockAdvance ?_ _; exact h
      · exact h
    · exact h
  unfold State.tick State.tickLink
  simp only
  split <;> exact canonical_tickChannels hclock

end

/-! ### The planner -/

section
variable {s : State} (h : s.Canonical)
include h

theorem canonical_visitNext : s.visitNext.Canonical := by
  unfold State.visitNext
  split
  · split <;> exact h
  · exact h

theorem canonical_finishPass : s.finishPass.Canonical := by
  unfold State.finishPass
  split
  · unfold State.completePass
    simp only
    split
    · exact canonical_raise (canonical_setCause h _ _) _ _
    · exact canonical_setCause h _ _
  · exact h

theorem canonical_dispatch (e : Candidate) : (s.dispatch e).Canonical := by
  unfold State.dispatch
  split
  · refine canonical_setSegment (canonical_transition ?_ _ _ _) _ _
    exact canonical_queueOrder (canonical_setChannel h _ _) _ _
  · exact h

theorem canonical_runTrial : s.runTrial.Canonical := by
  unfold State.runTrial
  split
  · split
    · split
      · unfold State.tryEntry
        simp only
        split
        · exact canonical_dispatch h _
        · exact h
      · exact h
    · exact h
  · exact h

end

/-! ### The host port -/

section
variable {s : State} (h : s.Canonical)
include h

theorem canonical_acceptTransaction (bytes : List Byte) (ending : TransactionEnd) :
    (s.acceptTransaction bytes ending).Canonical := by
  have has (a : Option Instr) : (s.acceptAs a).Canonical := by
    unfold State.acceptAs
    split
    · exact ⟨.nil, .nil, Table.canonical_nil _, Table.canonical_nil _, Table.canonical_nil _, Table.canonical_nil _,
        Table.canonical_nil _, Table.canonical_nil _⟩
    · split <;> exact h
    · split <;> exact h
  have hbytes (whole : Bool) : (s.acceptBytes bytes whole).Canonical := by
    unfold State.acceptBytes
    split
    · exact h
    · split
      · exact h
      · exact has _
      · exact has _
  cases ending with
  | whole => exact hbytes true
  | midByte => exact hbytes false
  | abandoned => exact h

theorem canonical_sampleAttention : s.sampleAttention.Canonical := by
  unfold State.sampleAttention
  simp only
  split
  next c _ =>
    unfold State.clearRead
    split
    · simp only
      split <;> exact canonical_setCause (s := s.send _) h _ _
    · exact h
  · exact h

end

end Sys2Proof.Machine

end

section
/-! PROOF. What the reads leave alone, and the ends of the commands on a record: without effect, or with the conditions
that let them have their own. -/

namespace Sys2Proof.Machine

/-! ### The reads (R170, R173, R174) -/

theorem sampleEffect_frame (data : State → List Byte) (s : State) :
    sampleEffect data s
      = { s with port := { s.port with output := (sampleEffect data s).port.output, statusRead := false } } := by
  unfold sampleEffect readEffect State.serve; split <;> rfl

theorem State.sampleMember_frame (s : State) (c : WalkCursor) (first : Bool) :
    s.sampleMember c first
      = { s with
          port :=
            { s.port with
              walk := (s.sampleMember c first).port.walk, output := (s.sampleMember c first).port.output } } := by
  unfold State.sampleMember; split <;> rfl

theorem State.startWalk_frame (s : State) (f : WalkFilter) (start : Nat) :
    s.startWalk f start
      = { s with
          port :=
            { s.port with walk := (s.startWalk f start).port.walk, output := (s.startWalk f start).port.output } } := by
  unfold State.startWalk
  split
  · exact State.sampleMember_frame ..
  · rfl

theorem State.startRecordWalk_frame (s : State) (start : Nat) :
    s.startRecordWalk start
      = { s with
          port :=
            { s.port with
              walk := (s.startRecordWalk start).port.walk, output := (s.startRecordWalk start).port.output } } := by
  unfold State.startRecordWalk; split <;> rfl

theorem State.nextImage_frame (s : State) :
    s.nextImage
      = { s with port := { s.port with walk := s.nextImage.port.walk, output := s.nextImage.port.output } } := by
  unfold State.nextImage
  split
  · split
    · rfl
    · exact State.sampleMember_frame ..
  · rfl

/-- A walk begun: served, or refused while BUSY. -/
theorem readEffect_frame {data : State → State}
    (hdata : ∀ s, data s = { s with port := { s.port with walk := (data s).port.walk, output := (data s).port.output } })
    (s : State) :
    readEffect data s
      = { s with
          port :=
            { s.port with
              walk := (readEffect data s).port.walk, output := (readEffect data s).port.output
              statusRead := false } } := by
  unfold readEffect State.serve
  split
  · rfl
  · rw [hdata]; rfl

theorem State.repeatStatus_frame (s : State) :
    s.repeatStatus = { s with port := { s.port with output := s.repeatStatus.port.output } } := by
  unfold State.repeatStatus; split <;> rfl

/-! ### A command on a record -/

/-- What a command on a record does: it ends without effect, or has its own on the record that is there. -/
theorem onRecord_keeps {P : State → Prop} {slot : Half} {effect : State → Nat → Record → State × Result} {s : State}
    (hs : P s)
    (heffect : ∀ r, slot.toNat < 4096 → s.record? slot.toNat = some r → P (effect s slot.toNat r).1) :
    P (onRecord slot effect s).1 := by
  unfold onRecord
  split
  · exact hs
  next hslot =>
    split
    · exact hs
    next r hr => exact heffect r (by simpa [Config.slotCount] using hslot) hr

/-! ### ENROL (R18) -/

/-- What ENROL and AMEND ask of a list of neighbours for record `i` that has none of them yet: at most 6, each enrolled,
none of them the record itself or named twice (R17, R18). -/
structure State.ListFits (s : State) (i : Nat) (l : List Nat) : Prop where
  short : l.length ≤ 6
  enrolled : ∀ n ∈ l, ∃ q, s.record? n = some q
  other : i ∉ l
  nodup : l.Nodup

/-- Each record named has room for one more neighbour (R17). -/
def State.HasRoom (s : State) (l : List Nat) : Prop := ∀ n ∈ l, ∀ q, s.record? n = some q → q.neighbours.length < 6

/-- What ENROL asks of the record it creates (R18). -/
structure State.Enrolable (s : State) (i : Nat) (r : Record) : Prop where
  index : i < 4096
  segment : r.segment < 16
  address : r.address < 256
  zone : r.zone < 256
  cls : r.cls < 16
  slotFree : s.record? i = none
  classDefined : (s.classAt r.cls).figures.isSome = true
  zoneDefined : (s.zoneAt r.zone).isDefined = true
  locationFree : s.locate r.segment r.address = none
  list : s.ListFits i r.neighbours
  room : s.HasRoom r.neighbours
  clockSet : s.clock.isSet = true

theorem placesGiven_length {n : Nat} {places : List Half} (h : placesOutOfRange n places = false) :
    (placesGiven n places).length ≤ 6 := by
  have hn : n ≤ 6 := by
    rw [placesOutOfRange, Bool.or_eq_false_iff] at h
    exact not_lt.mp (of_decide_eq_false h.1)
  simp only [placesGiven, List.length_map, List.length_take]
  omega

theorem State.listFits_of_valid {s : State} {i n : Nat} {places : List Half} (hrange : placesOutOfRange n places = false)
    (hvalid : s.neighboursInvalid i (placesGiven n places) = false) : s.ListFits i (placesGiven n places) := by
  simp only [State.neighboursInvalid, Bool.or_eq_false_iff, Bool.not_eq_false', decide_eq_true_eq, List.any_eq_false,
    State.isFree, Bool.or_eq_true, not_or, beq_iff_eq, Option.isNone_iff_eq_none] at hvalid
  obtain ⟨hmem, hnodup⟩ := hvalid
  exact
    { short := placesGiven_length hrange
      enrolled := fun m hm => Option.ne_none_iff_exists'.mp (hmem m hm).1
      other := fun hi => (hmem i hi).2 rfl
      nodup := hnodup }

theorem State.hasRoom_iff {s : State} {l : List Nat} : s.HasRoom l ↔ l.any s.neighbourFull = false := by
  simp only [State.HasRoom, List.any_eq_false, State.neighbourFull, Config.neighbourLimit]
  refine forall₂_congr fun n _ => ?_
  cases s.record? n with
  | none => simp
  | some q =>
    simp only [Option.some.injEq, forall_eq', Bool.not_eq_true]
    exact ⟨fun h => decide_eq_false (not_le.mpr h), fun h => not_le.mp (of_decide_eq_false h)⟩

/-- ENROL ends without effect, or creates a record that fits (R18, R19). -/
theorem enrolEffect_cases (slot : Half) (segment address zone cls count : Byte) (places : List Half) (s : State) :
    (enrolEffect slot segment address zone cls count places s).1 = s
      ∨ (s.Enrolable slot.toNat
            (s.newRecord segment.toNat address.toNat zone.toNat cls.toNat (placesGiven count.toNat places))
          ∧ (enrolEffect slot segment address zone cls count places s).1
            = s.enrolRecord slot.toNat
                (s.newRecord segment.toNat address.toNat zone.toNat cls.toNat (placesGiven count.toNat places))) := by
  unfold enrolEffect
  extract_lets i g l
  split; · exact .inl rfl
  next hrange =>
  split; · exact .inl rfl
  next hfree =>
  split; · exact .inl rfl
  next hclass =>
  split; · exact .inl rfl
  next hzone =>
  split; · exact .inl rfl
  next hlocation =>
  split; · exact .inl rfl
  next hvalid =>
  split; · exact .inl rfl
  next hroom =>
  split; · exact .inl rfl
  next hclock =>
  simp only [not_or, not_le, Config.slotCount, Config.segmentCount, Config.classCount, Bool.not_eq_true] at hrange
  obtain ⟨hi, hg, hc, hplaces⟩ := hrange
  exact .inr
    ⟨{ index := hi
       segment := hg
       address := address.isLt
       zone := zone.isLt
       cls := hc
       slotFree := by simpa [State.isFree] using hfree
       classDefined := Bool.not_eq_false _ |>.mp hclass
       zoneDefined := Bool.not_eq_false _ |>.mp hzone
       locationFree := Option.not_isSome_iff_eq_none.mp hlocation
       list := State.listFits_of_valid hplaces (by simpa using hvalid)
       room := State.hasRoom_iff.mpr (Bool.not_eq_true _ |>.mp hroom)
       clockSet := by simpa using hclock }, rfl⟩

/-! ### AMEND (R20) -/

/-- What an AMEND of the record `r` of slot `i` changes. -/
def amendChanges (r : Record) (selection segment address zone cls count : Byte) (places : List Half) : Changes :=
  { location := changeTo (selection.getLsbD 0) (r.segment, r.address) (segment.toNat, address.toNat)
    zone := changeTo (selection.getLsbD 1) r.zone zone.toNat
    cls := changeTo (selection.getLsbD 2) r.cls cls.toNat
    neighbours :=
      if selection.getLsbD 3 && !sameSet (placesGiven count.toNat places) r.neighbours then
        some (placesGiven count.toNat places)
      else none }

/-- What AMEND asks of the changes it makes to the record `r` of slot `i` (R20). -/
structure State.Amendable (s : State) (i : Nat) (r : Record) (ch : Changes) : Prop where
  enrolled : s.record? i = some r
  notRetiring : r.retirePending = false
  inPlace : r.state.inTest = true → ch.location = none ∧ ch.cls = none
  location : ∀ g a, ch.location = some (g, a) → g < 16 ∧ a < 256 ∧ s.locate g a = none
  zone : ∀ z, ch.zone = some z → z < 256 ∧ z ≠ r.zone ∧ (s.zoneAt z).isDefined = true
  cls : ∀ c, ch.cls = some c → c < 16 ∧ c ≠ r.cls ∧ (s.classAt c).figures.isSome = true
  list : ∀ l, ch.neighbours = some l → s.ListFits i l
  room : ∀ l, ch.neighbours = some l → s.HasRoom (added r.neighbours l)
  dark : ∀ l, ch.neighbours = some l → r.state.inTest = true →
    ∀ n ∈ added r.neighbours l, ∀ q, s.record? n = some q → q.state.inTest = false

theorem changeTo_eq_some {α : Type} [DecidableEq α] {selected : Bool} {present given v : α} :
    changeTo selected present given = some v ↔ selected = true ∧ given ≠ present ∧ given = v := by
  unfold changeTo
  split
  next h => simp [h.1, h.2]
  next h => simp only [reduceCtorEq, false_iff]; tauto

theorem changeTo_isSome {α : Type} [DecidableEq α] {selected : Bool} {present given : α} :
    (changeTo selected present given).isSome = true ↔ selected = true ∧ given ≠ present := by
  simp [Option.isSome_iff_exists, changeTo_eq_some]

theorem State.any_underTest_eq_false {s : State} {l : List Nat} :
    l.any s.underTest = false ↔ ∀ n ∈ l, ∀ q, s.record? n = some q → q.state.inTest = false := by
  simp only [List.any_eq_false, State.underTest]
  refine forall₂_congr fun n _ => ?_
  cases s.record? n <;> simp

/-- The conditions of an AMEND on an enrolled record, and its changes. -/
def State.amendOn (s : State) (i : Nat) (r : Record) (ch : Changes) (relist : Bool) (l : List Nat) (g a z c : Nat) :
    State × Result :=
  if r.retirePending then (s, .wrongState)
  else if r.state.inTest = true ∧ (ch.location.isSome = true ∨ ch.cls.isSome = true) then (s, .inTest)
  else if ch.cls.isSome = true ∧ s.classDefined c = false then (s, .classUndefined)
  else if ch.zone.isSome = true ∧ (s.zoneAt z).isDefined = false then (s, .zoneUndefined)
  else if ch.location.isSome = true ∧ (s.locate g a).isSome = true then (s, .addressTaken)
  else if relist = true ∧ s.neighboursInvalid i l = true then (s, .neighbourInvalid)
  else if ch.neighbours.isSome = true ∧ (added r.neighbours l).any s.neighbourFull = true then (s, .neighbourFull)
  else if ch.neighbours.isSome = true ∧ r.state.inTest = true ∧ (added r.neighbours l).any s.underTest = true then
    (s, .neighbourBusy)
  else if ch.location.isNone && ch.zone.isNone && ch.cls.isNone && ch.neighbours.isNone then (s, .noEffect)
  else (s.applyChanges i r ch, .done)

/-- An argument of AMEND is out of its range (R20). -/
def amendOutOfRange (slot : Half) (selection segment cls count : Byte) (places : List Half) : Prop :=
  Config.slotCount ≤ slot.toNat ∨ (selection.getLsbD 0 = true ∧ Config.segmentCount ≤ segment.toNat)
    ∨ (selection.getLsbD 2 = true ∧ Config.classCount ≤ cls.toNat)
    ∨ (selection.getLsbD 3 = true ∧ placesOutOfRange count.toNat places = true)

section
variable {slot : Half} {selection segment address zone cls count : Byte} {places : List Half} {s : State}

theorem amendEffect_outOfRange (h : amendOutOfRange slot selection segment cls count places) :
    amendEffect slot selection segment address zone cls count places s = (s, .outOfRange) := if_pos h

theorem amendEffect_notEnrolled (h : ¬amendOutOfRange slot selection segment cls count places)
    (hr : s.record? slot.toNat = none) :
    amendEffect slot selection segment address zone cls count places s = (s, .notEnrolled) := by
  refine (if_neg h).trans ?_
  rw [hr]

theorem amendEffect_enrolled {r : Record} (h : ¬amendOutOfRange slot selection segment cls count places)
    (hr : s.record? slot.toNat = some r) :
    amendEffect slot selection segment address zone cls count places s
      = s.amendOn slot.toNat r (amendChanges r selection segment address zone cls count places)
          (selection.getLsbD 3) (placesGiven count.toNat places) segment.toNat address.toNat zone.toNat cls.toNat := by
  refine (if_neg h).trans ?_
  rw [hr]; rfl

/-- AMEND ends without effect, or makes changes that fit (R20). -/
theorem amendEffect_cases (slot : Half) (selection segment address zone cls count : Byte) (places : List Half)
    (s : State) :
    (amendEffect slot selection segment address zone cls count places s).1 = s
      ∨ ∃ r, s.Amendable slot.toNat r (amendChanges r selection segment address zone cls count places)
          ∧ (amendEffect slot selection segment address zone cls count places s).1
            = s.applyChanges slot.toNat r (amendChanges r selection segment address zone cls count places) := by
  by_cases hrange : amendOutOfRange slot selection segment cls count places
  · exact .inl (by rw [amendEffect_outOfRange hrange])
  cases hr : s.record? slot.toNat with
  | none => exact .inl (by rw [amendEffect_notEnrolled hrange hr])
  | some r =>
  rw [amendEffect_enrolled hrange hr]
  simp only [amendOutOfRange, not_or, not_and, not_le, Config.slotCount, Config.segmentCount, Config.classCount,
    Bool.not_eq_true] at hrange
  obtain ⟨-, hrangeLocation, hrangeClass, hrangeList⟩ := hrange
  generalize hch : amendChanges r selection segment address zone cls count places = ch
  have hlocations {v : Nat × Nat} (hv : ch.location = some v) :
      selection.getLsbD 0 = true ∧ v = (segment.toNat, address.toNat) := by
    subst hch
    obtain ⟨hsel, -, he⟩ := changeTo_eq_some.mp hv
    exact ⟨hsel, he.symm⟩
  have hzones {z : Nat} (hz : ch.zone = some z) : z ≠ r.zone ∧ z = zone.toNat := by
    subst hch
    obtain ⟨-, hne, he⟩ := changeTo_eq_some.mp hz
    exact ⟨he ▸ hne, he.symm⟩
  have hclasses {c : Nat} (hc : ch.cls = some c) : selection.getLsbD 2 = true ∧ c ≠ r.cls ∧ c = cls.toNat := by
    subst hch
    obtain ⟨hsel, hne, he⟩ := changeTo_eq_some.mp hc
    exact ⟨hsel, he ▸ hne, he.symm⟩
  have hlists {l : List Nat} (hl : ch.neighbours = some l) :
      selection.getLsbD 3 = true ∧ l = placesGiven count.toNat places := by
    subst hch
    obtain ⟨hsel, he⟩ := Option.ite_none_right_eq_some.mp hl
    exact ⟨(Bool.and_eq_true_iff.mp hsel).1, (Option.some.inj he).symm⟩
  unfold State.amendOn
  split; · exact .inl rfl
  next hretiring =>
  split; · exact .inl rfl
  next hplace =>
  split; · exact .inl rfl
  next hclass =>
  split; · exact .inl rfl
  next hzone =>
  split; · exact .inl rfl
  next hlocation =>
  split; · exact .inl rfl
  next hvalid =>
  split; · exact .inl rfl
  next hroom =>
  split; · exact .inl rfl
  next hdark =>
  split; · exact .inl rfl
  refine .inr ⟨r, hch ▸ ?_, hch ▸ rfl⟩
  exact
    { enrolled := hr
      notRetiring := Bool.not_eq_true _ |>.mp hretiring
      inPlace := fun hin => by simpa [hin] using hplace
      location := fun g a hga => by
        obtain ⟨hsel, he⟩ := hlocations hga
        cases he
        exact ⟨hrangeLocation hsel, address.isLt, by simpa [hga] using hlocation⟩
      zone := fun z hz => by
        obtain ⟨hne, he⟩ := hzones hz
        cases he
        exact ⟨zone.isLt, hne, by simpa [hz] using hzone⟩
      cls := fun c hc => by
        obtain ⟨hsel, hne, he⟩ := hclasses hc
        cases he
        refine ⟨hrangeClass hsel, hne, ?_⟩
        rw [hc] at hclass
        exact Bool.not_eq_false _ |>.mp fun hd => hclass ⟨rfl, hd⟩
      list := fun l hl => by
        obtain ⟨hsel, rfl⟩ := hlists hl
        exact State.listFits_of_valid (hrangeList hsel) (by simpa [hsel] using hvalid)
      room := fun l hl => by
        obtain ⟨-, rfl⟩ := hlists hl
        exact State.hasRoom_iff.mpr (Bool.not_eq_true _ |>.mp fun hf => hroom ⟨by rw [hl]; rfl, hf⟩)
      dark := fun l hl hin => by
        obtain ⟨-, rfl⟩ := hlists hl
        exact State.any_underTest_eq_false.mp (Bool.not_eq_true _ |>.mp fun hf => hdark ⟨by rw [hl]; rfl, hin, hf⟩) }

end

/-! ### RETIRE (R25) -/

/-- RETIRE ends without effect, is deferred for a record under test, or frees the record (R25). -/
theorem retireEffect_cases (slot : Half) (s : State) :
    (retireEffect slot s).1 = s
      ∨ ∃ r, s.record? slot.toNat = some r ∧ r.retirePending = false
          ∧ ((r.state.inTest = true
                ∧ (retireEffect slot s).1 = s.setRecord slot.toNat { r with retirePending := true })
            ∨ (r.state.inTest = false ∧ (retireEffect slot s).1 = s.freeRecord slot.toNat r)) := by
  unfold retireEffect
  extract_lets i
  split; · exact .inl rfl
  split; · exact .inl rfl
  next r hr =>
  split; · exact .inl rfl
  next hp =>
  refine .inr ⟨r, hr, by simpa using hp, ?_⟩
  split
  next hin => exact .inl ⟨hin, rfl⟩
  next hin => exact .inr ⟨by simpa using hin, rfl⟩

end Sys2Proof.Machine

end

section
/-! PROOF. The first invariant of every step: the canonical form of the tables. -/

namespace Sys2Proof.Machine

theorem canonical_enrolRecord {s : State} (h : s.Canonical) (i : Nat) (r : Record) : (s.enrolRecord i r).Canonical :=
  canonical_addLocation
    (canonical_setClass (canonical_setZone (canonical_linkAll (canonical_setRecord h i r) i _) _ _) _ _) _ _ _

/-! ### AMEND, change by change (R21 to R23) -/

section
variable {s : State} (h : s.Canonical)
include h

theorem canonical_amendLocation (i : Nat) (r : Record) (o : Option (Nat × Nat)) :
    (s.amendLocation i r o).Canonical := by
  unfold State.amendLocation
  split
  · exact canonical_addLocation (canonical_removeLocation (canonical_setRecord h _ _) _ _) _ _ _
  · exact h

theorem canonical_amendClass (i : Nat) (r : Record) (o : Option Nat) : (s.amendClass i r o).Canonical := by
  unfold State.amendClass
  split
  · exact canonical_setClass (canonical_setClass (canonical_setRecord h _ _) _ _) _ _
  · exact h

theorem canonical_amendZone (i : Nat) (r : Record) (o : Option Nat) : (s.amendZone i r o).Canonical := by
  unfold State.amendZone
  split
  · exact canonical_setZone (canonical_setZone (canonical_setRecord h _ _) _ _) _ _
  · exact h

theorem canonical_amendNeighbours (i : Nat) (r : Record) (o : Option (List Nat)) :
    (s.amendNeighbours i r o).Canonical := by
  unfold State.amendNeighbours
  split
  · exact canonical_linkAll (canonical_unlinkAll (canonical_setRecord h _ _) _ _) _ _
  · exact h

theorem canonical_applyChanges (i : Nat) (r : Record) (ch : Changes) : (s.applyChanges i r ch).Canonical :=
  canonical_amendNeighbours
    (canonical_amendZone (canonical_amendClass (canonical_amendLocation h _ _ _) _ _ _) _ _ _) _ _ _

end

/-! ### The actions -/

section
variable {s : State} (h : s.Canonical)
include h

theorem canonical_enrolEffect (slot : Half) (segment address zone cls count : Byte) (places : List Half) :
    (enrolEffect slot segment address zone cls count places s).1.Canonical := by
  rcases enrolEffect_cases slot segment address zone cls count places s with hend | ⟨-, hend⟩ <;> rw [hend]
  · exact h
  · exact canonical_enrolRecord h _ _

theorem canonical_amendEffect (slot : Half) (selection segment address zone cls count : Byte) (places : List Half) :
    (amendEffect slot selection segment address zone cls count places s).1.Canonical := by
  rcases amendEffect_cases slot selection segment address zone cls count places s with hend | ⟨r, -, hend⟩ <;> rw [hend]
  · exact h
  · exact canonical_applyChanges h _ _ _

theorem canonical_retireEffect (slot : Half) : (retireEffect slot s).1.Canonical := by
  rcases retireEffect_cases slot s with hend | ⟨r, -, -, ⟨-, hend⟩ | ⟨-, hend⟩⟩ <;> rw [hend]
  · exact h
  · exact canonical_setRecord h _ _
  · exact canonical_freeRecord h _ _

theorem canonical_requestTestEffect (slot : Half) (kind : Byte) : (requestTestEffect slot kind s).1.Canonical := by
  unfold requestTestEffect
  split
  · exact h
  · refine onRecord_keeps (P := State.Canonical) h fun r _ _ => ?_
    split; · exact h
    split; · exact h
    exact canonical_setRecord h _ _

theorem canonical_cancelRequestEffect (slot : Half) : (cancelRequestEffect slot s).1.Canonical := by
  refine onRecord_keeps (P := State.Canonical) h fun r _ _ => ?_
  split; · exact h
  split; · exact h
  exact canonical_setRecord h _ _

theorem canonical_acceptRepairEffect (slot : Half) : (acceptRepairEffect slot s).1.Canonical := by
  refine onRecord_keeps (P := State.Canonical) h fun r _ _ => ?_
  split
  · exact canonical_transition h _ _ _
  · exact h

theorem canonical_reviveEffect (slot : Half) : (reviveEffect slot s).1.Canonical := by
  refine onRecord_keeps (P := State.Canonical) h fun r _ _ => ?_
  split
  · exact canonical_transition h _ _ _
  · exact h

theorem canonical_abortTestEffect (slot : Half) : (abortTestEffect slot s).1.Canonical := by
  refine onRecord_keeps (P := State.Canonical) h fun r _ _ => ?_
  split
  · exact h
  · split
    · exact h
    · exact canonical_queueOrder (canonical_setChannel h _ _) _ _

theorem canonical_setClockEffect (minute : Word) : (setClockEffect minute s).1.Canonical := by
  unfold setClockEffect
  split
  · exact h
  · refine canonical_clockAdvance ?_ _; exact h

theorem canonical_trimClockEffect (amount : Byte) : (trimClockEffect amount s).1.Canonical := by
  unfold trimClockEffect
  simp only
  split
  · exact h
  · split
    · exact h
    · refine canonical_clockAdvance ?_ _; exact h

theorem canonical_setLevelsEffect (levels : List Byte) : (setLevelsEffect levels s).1.Canonical := by
  unfold setLevelsEffect
  exact foldl_keeps (P := State.Canonical) (fun _ _ h => canonical_setCause h _ _) _ h

theorem canonical_configureLinkEffect (sense threshold loopback : Byte) :
    (configureLinkEffect sense threshold loopback s).1.Canonical := by
  unfold configureLinkEffect
  split
  · split
    · exact h
    · refine canonical_writeHaltWord ?_; exact h
  · exact h

theorem canonical_haltSegmentsEffect (m : SegMap) : (haltSegmentsEffect m s).1.Canonical := by
  unfold haltSegmentsEffect
  split
  · exact h
  · dsimp only
    exact canonical_joinHalt h m

theorem canonical_haltEffect : (haltEffect s).1.Canonical := by
  unfold haltEffect
  split
  · exact h
  · split
    · exact h
    · dsimp only
      refine canonical_joinHalt ?_ _
      exact h

end

/-- Every command's course keeps the canonical form. -/
theorem course_keeps_canonical (c : Instr) : (course c).Keeps State.Canonical State.Canonical := by
  have ite_keeps {p : Prop} [Decidable p] {a b : State × Result} (ha : a.1.Canonical) (hb : b.1.Canonical) :
      (if p then a else b).1.Canonical := by split <;> assumption
  have whole (data : State → List Byte) (s : State) (h : s.Canonical) : (sampleEffect data s).Canonical := by
    rw [sampleEffect_frame]; exact h
  cases c with
  | enrol => exact fun s h => canonical_enrolEffect h ..
  | amend => exact fun s h => canonical_amendEffect h ..
  | retire => exact fun s h => canonical_retireEffect h _
  | writeClass => exact fun s h => ite_keeps h (canonical_setClass h _ _)
  | clearClass => exact fun s h => ite_keeps h (ite_keeps h (ite_keeps h (canonical_setClass h _ _)))
  | writeZone => exact fun s h => ite_keeps h (canonical_setZone h _ _)
  | setZoneHold => exact fun s h => ite_keeps h (ite_keeps h (canonical_setZone h _ _))
  | clearZone => exact fun s h => ite_keeps h (ite_keeps h (canonical_setZone h _ _))
  | writeSegment => exact fun s h => ite_keeps h (canonical_setSegment h _ _)
  | requestTest => exact fun s h => canonical_requestTestEffect h _ _
  | cancelRequest => exact fun s h => canonical_cancelRequestEffect h _
  | acceptRepair => exact fun s h => canonical_acceptRepairEffect h _
  | revive => exact fun s h => canonical_reviveEffect h _
  | abortTest => exact fun s h => canonical_abortTestEffect h _
  | setClock => exact fun s h => canonical_setClockEffect h _
  | trimClock => exact fun s h => canonical_trimClockEffect h _
  | writeProfile => exact fun s h => ite_keeps h (canonical_setProfile h _ _)
  | addException =>
    intro s h
    simp only [addExceptionEffect]
    split
    · exact h
    · exact ite_keeps h (ite_keeps h (ite_keeps h (ite_keeps h h)))
  | dropException =>
    intro s h
    simp only [dropExceptionEffect]
    split
    · exact h
    · exact ite_keeps h h
  | setSweep =>
    intro s h
    simp only [setSweepEffect]
    split
    · exact ite_keeps h (ite_keeps h h)
    · exact h
  | startSweep => exact fun s h => ite_keeps h (ite_keeps h (ite_keeps h h))
  | setTiming => exact fun s h => h
  | configureLink => exact fun s h => canonical_configureLinkEffect h ..
  | haltSegments => exact fun s h => canonical_haltSegmentsEffect h _
  | start => exact fun s h => ite_keeps h (ite_keeps h (ite_keeps h h))
  | suspend => exact fun s h => ite_keeps h h
  | resume => exact fun s h => ite_keeps h h
  | halt => exact fun s h => canonical_haltEffect h
  | setTurnaround => exact fun s h => h
  | setAttentionLevels => exact fun s h => canonical_setLevelsEffect h _
  | resetPart | partReset =>
    exact fun s _ => ⟨.nil, .nil, Table.canonical_nil _, Table.canonical_nil _, Table.canonical_nil _,
      Table.canonical_nil _, Table.canonical_nil _, Table.canonical_nil _⟩
  | accept => exact fun s h => canonical_acceptTransaction (s := s.leaveStatus) h _ _
  | readStatus => exact fun s h => h
  | statusRepetition => exact fun s h => by rw [State.repeatStatus_frame]; exact h
  | readAttention => exact fun s h => canonical_sampleAttention (s := s.leaveStatus) h
  | readRecord => exact fun s h => by rw [readEffect_frame (fun s => s.startRecordWalk_frame _)]; exact h
  | walkZone | walkState => exact fun s h => by rw [readEffect_frame (fun s => s.startWalk_frame _ _)]; exact h
  | walkNextImage => exact fun s h => by rw [State.nextImage_frame]; exact h
  | walkEnd => exact fun s h => h
  | readClock | findAddress | readClass | readZone | readSegment | readProfile | readExceptions | readChannels
  | readCandidates => exact whole _
  | secondTick => exact fun s h => canonical_tick h
  | runExpiry => exact fun s h => canonical_expireRun h _
  | answerExpiry => exact fun s h => canonical_expireAnswer h _
  | stall => exact fun s h => canonical_raiseStall h
  | visit => exact fun s h => canonical_visitNext h
  | passCompletion => exact fun s h => canonical_finishPass h
  | trial => exact fun s h => canonical_runTrial h
  | orderTake => exact fun s h => canonical_takeOrder h
  | loopbackTake => exact fun s h => canonical_takeLoopback h
  | reportTake => exact fun s h => canonical_takeReport h
  | reportWrite | mainsWordWrite =>
    intro s h
    simp only [State.writeReport, State.writeMains]
    split <;> exact h
  | mainsWordTake => exact fun s h => canonical_takeMains h
  | haltTake => exact fun s h => canonical_takeHalt h

end Sys2Proof.Machine

open Sys2Proof.Machine

/-- Settles O54: every command's course keeps the canonical form, and so does the settling before it. -/
theorem tablesStayCanonical : Obligations.TablesStayCanonical := fun _ _ hs =>
  step_keeps (fun _ _ h => h)
    (fun c _ _ h => exec_keeps (fun _ => canonical_settle) (fun _ _ h => h) (fun _ h => h) (course_keeps_canonical c) h) hs

end

section
/-! PROOF. Counts of the records (R4, R9) after each operation of the register, and which parts of the state each law of
Safety.lean reads. -/

namespace Sys2Proof.Machine

/-! ### Counts over a table -/

section
variable {α : Type} {t : Table α} {k : Nat} {v : α} (p : Nat × α → Bool)

theorem Table.countP_store_some (h : Table.Rising t) (hk : Table.at? t k = some v) (w : α) :
    (Table.store t k w).countP p + (if p (k, v) then 1 else 0) = t.countP p + if p (k, w) then 1 else 0 := by
  induction t with
  | nil => cases hk
  | cons x t ih =>
    obtain ⟨j, u⟩ := x
    obtain ⟨hx, ht⟩ := List.pairwise_cons.mp h
    rw [Table.at?_cons] at hk
    by_cases hj : j = k
    · subst hj
      rw [if_pos rfl] at hk
      cases hk
      simp only [Table.store, lt_irrefl, if_false, if_true, List.countP_cons]
      omega
    · rw [if_neg hj] at hk
      have hlt : j < k := hx (k, v) (Table.mem_of_at? hk)
      have ih := ih ht hk
      simp only [Table.store, if_neg (not_lt.mpr hlt.le), if_neg (Ne.symm hj), List.countP_cons]
      omega

theorem Table.countP_store_none (hk : Table.at? t k = none) (w : α) :
    (Table.store t k w).countP p = t.countP p + if p (k, w) then 1 else 0 := by
  induction t with
  | nil => simp [Table.store, List.countP_cons]
  | cons x t ih =>
    obtain ⟨j, u⟩ := x
    rw [Table.at?_cons] at hk
    split at hk
    · cases hk
    next hj =>
      have ih := ih hk
      simp only [Table.store, if_neg (Ne.symm hj)]
      split
      · simp only [List.countP_cons]
      · simp only [List.countP_cons]; omega

theorem Table.countP_remove (h : Table.Rising t) (hk : Table.at? t k = some v) :
    (Table.remove t k).countP p + (if p (k, v) then 1 else 0) = t.countP p := by
  induction t with
  | nil => cases hk
  | cons x t ih =>
    obtain ⟨j, u⟩ := x
    obtain ⟨hx, ht⟩ := List.pairwise_cons.mp h
    rw [Table.at?_cons] at hk
    by_cases hj : j = k
    · subst hj
      rw [if_pos rfl] at hk
      cases hk
      have hrest : t.filter (fun e => e.1 != j) = t :=
        List.filter_eq_self.mpr fun e he => bne_iff_ne.mpr (hx e he).ne'
      simp only [Table.remove, bne_self_eq_false, Bool.false_eq_true, not_false_eq_true, List.filter_cons_of_neg, hrest,
        List.countP_cons]
    · rw [if_neg hj] at hk
      have ih := ih ht hk
      simp only [Table.remove] at ih
      simp only [Table.remove, bne_iff_ne, ne_eq, hj, not_false_eq_true, List.filter_cons_of_pos, List.countP_cons]
      omega

/-- A table with keys below `n` lists at most `n` entries. -/
theorem Table.length_le (h : Table.Rising t) {n : Nat} (hn : ∀ e ∈ t, e.1 < n) : t.length ≤ n := by
  have hkeys : (t.map Prod.fst).Nodup := (List.pairwise_map.mpr h).imp fun h => h.ne
  calc t.length = (t.map Prod.fst).length := (List.length_map _).symm
    _ = (t.map Prod.fst).toFinset.card := (List.toFinset_card_of_nodup hkeys).symm
    _ ≤ (Finset.range n).card := Finset.card_le_card fun i hi => by
        obtain ⟨e, he, rfl⟩ := List.mem_map.mp (List.mem_toFinset.mp hi)
        exact Finset.mem_range.mpr (hn e he)
    _ = n := Finset.card_range n

end

/-! ### Counts of the records -/

/-- 1 where a record satisfies a test, 0 where it does not. -/
def Record.counted (r : Record) (p : Record → Bool) : Nat := if p r then 1 else 0

section
variable {s : State} {i : Nat} {r : Record} (p : Record → Bool)

theorem State.countRecords_setRecord (h : Table.Rising s.luminaires) (hr : s.record? i = some r) (q : Record) :
    (s.setRecord i q).countRecords p + r.counted p = s.countRecords p + q.counted p :=
  Table.countP_store_some (fun e => p e.2) h hr q

theorem State.countRecords_setRecord_new (hr : s.record? i = none) (q : Record) :
    (s.setRecord i q).countRecords p = s.countRecords p + q.counted p :=
  Table.countP_store_none (fun e => p e.2) hr q

theorem State.countRecords_dropRecord (h : Table.Rising s.luminaires) (hr : s.record? i = some r) :
    (s.dropRecord i).countRecords p + r.counted p = s.countRecords p :=
  Table.countP_remove (fun e => p e.2) h hr

/-- A record counted is there to be counted. -/
theorem State.counted_le_countRecords (hr : s.record? i = some r) : r.counted p ≤ s.countRecords p := by
  unfold Record.counted
  split
  next hp => exact List.countP_pos_iff.mpr ⟨(i, r), Table.mem_of_at? hr, hp⟩
  · exact Nat.zero_le _

theorem State.countRecords_mono {p q : Record → Bool} (h : ∀ r, p r = true → q r = true) :
    s.countRecords p ≤ s.countRecords q :=
  List.countP_mono_left fun e _ => h e.2

/-- At most 4,096 records are enrolled, so no count of them is above that (R1). -/
theorem State.countRecords_le (h : Table.Rising s.luminaires) (hnames : s.NamesLaw) : s.countRecords p ≤ 4096 :=
  List.countP_le_length.trans <| Table.length_le h fun e he =>
    (hnames e.1 e.2 ((Table.mem_iff_at? h _ _).mp he)).1

/-- What a link made or broken leaves alone in the records: every test that does not look at the neighbours. -/
def NotOfNeighbours (p : Record → Bool) : Prop := ∀ r l, p { r with neighbours := l } = p r

theorem State.countRecords_relink {p : Record → Bool} (hp : NotOfNeighbours p) (h : Table.Rising s.luminaires)
    (hr : s.record? i = some r) (l : List Nat) :
    (s.setRecord i { r with neighbours := l }).countRecords p = s.countRecords p := by
  have hcount := s.countRecords_setRecord p h hr { r with neighbours := l }
  have hsame : ({ r with neighbours := l } : Record).counted p = r.counted p := by
    rw [Record.counted, hp r l, Record.counted]
  omega

theorem State.linkEnd_rising (n i : Nat) (h : Table.Rising s.luminaires) : Table.Rising (s.linkEnd n i).luminaires := by
  unfold State.linkEnd; split; exacts [Table.rising_store _ _ h, h]

theorem State.unlinkEnd_rising (n i : Nat) (h : Table.Rising s.luminaires) :
    Table.Rising (s.unlinkEnd n i).luminaires := by
  unfold State.unlinkEnd; split; exacts [Table.rising_store _ _ h, h]

theorem State.linkEnd_countRecords {p : Record → Bool} (hp : NotOfNeighbours p) (h : Table.Rising s.luminaires)
    (n i : Nat) : (s.linkEnd n i).countRecords p = s.countRecords p := by
  unfold State.linkEnd
  split
  next hr => exact State.countRecords_relink hp h hr _
  · rfl

theorem State.unlinkEnd_countRecords {p : Record → Bool} (hp : NotOfNeighbours p) (h : Table.Rising s.luminaires)
    (n i : Nat) : (s.unlinkEnd n i).countRecords p = s.countRecords p := by
  unfold State.unlinkEnd
  split
  next hr => exact State.countRecords_relink hp h hr _
  · rfl

theorem State.linkAll_counts {p : Record → Bool} (hp : NotOfNeighbours p) (h : Table.Rising s.luminaires) (i : Nat)
    (l : List Nat) :
    Table.Rising (s.linkAll i l).luminaires ∧ (s.linkAll i l).countRecords p = s.countRecords p := by
  induction l generalizing s with
  | nil => exact ⟨h, rfl⟩
  | cons n l ih =>
    obtain ⟨hrise, hcount⟩ := ih (State.linkEnd_rising n i h)
    exact ⟨hrise, hcount.trans (State.linkEnd_countRecords hp h n i)⟩

theorem State.unlinkAll_counts {p : Record → Bool} (hp : NotOfNeighbours p) (h : Table.Rising s.luminaires) (i : Nat)
    (l : List Nat) :
    Table.Rising (s.unlinkAll i l).luminaires ∧ (s.unlinkAll i l).countRecords p = s.countRecords p := by
  induction l generalizing s with
  | nil => exact ⟨h, rfl⟩
  | cons n l ih =>
    obtain ⟨hrise, hcount⟩ := ih (State.unlinkEnd_rising n i h)
    exact ⟨hrise, hcount.trans (State.unlinkEnd_countRecords hp h n i)⟩

/-- A state with the same records counts the same. -/
theorem State.countRecords_congr {s t : State} (h : t.luminaires = s.luminaires) (p : Record → Bool) :
    t.countRecords p = s.countRecords p := by
  simp only [State.countRecords, h]

/-- Freeing a record takes it out of every count it was in. -/
theorem State.countRecords_freeRecord {p : Record → Bool} (hp : NotOfNeighbours p) (h : Table.Rising s.luminaires)
    (hr : s.record? i = some r) (hself : i ∉ r.neighbours) :
    (s.freeRecord i r).countRecords p + r.counted p = s.countRecords p := by
  obtain ⟨hrise, hcount⟩ := State.unlinkAll_counts hp h i r.neighbours
  have hthere : (s.unlinkAll i r.neighbours).record? i = some r := by
    rw [State.unlinkAll_record?, if_neg hself, hr]
  rw [← hcount]
  exact State.countRecords_dropRecord p hrise hthere

end

/-! ### What each law reads -/

section
variable {s t : State}

theorem registerLaws_congr (hrecords : t.luminaires = s.luminaires) (hzones : t.zones = s.zones)
    (hclasses : t.classes = s.classes) (hlookup : t.lookup = s.lookup) (h : s.RegisterLaws) : t.RegisterLaws := by
  cases s; cases t
  cases hrecords; cases hzones; cases hclasses; cases hlookup
  exact ⟨h.names, h.zoneCounts, h.classUsers, h.lookup, h.neighbours, h.darkness, h.holds⟩

theorem exceptionLaw_congr (hexceptions : t.exceptions = s.exceptions) (hclock : t.clock = s.clock)
    (h : s.ExceptionLaw) : t.ExceptionLaw := by
  cases s; cases t; cases hexceptions; cases hclock; exact h

theorem bindingLaw_congr (hchannels : t.channels = s.channels) (hrecords : t.luminaires = s.luminaires)
    (hsegments : t.segments = s.segments) (h : s.BindingLaw) : t.BindingLaw := by
  cases s; cases t; cases hchannels; cases hrecords; cases hsegments; exact h

theorem timerLaw_congr (hchannels : t.channels = s.channels) (hclasses : t.classes = s.classes)
    (h : s.TimerLaw) : t.TimerLaw := by
  cases s; cases t; cases hchannels; cases hclasses; exact h

theorem queueLaw_congr (hchannels : t.channels = s.channels) (horders : t.link.dispatch = s.link.dispatch)
    (h : s.QueueLaw) : t.QueueLaw := by
  obtain ⟨hexist, hbound, hroom⟩ := h
  cases s; cases t; cases hchannels
  simp only at horders
  exact ⟨hexist, fun o ho => hbound o (horders ▸ ho), fun k => by rw [horders]; exact hroom k⟩

theorem candidateLaw_congr (hplanner : t.planner = s.planner) (h : s.CandidateLaw) : t.CandidateLaw := by
  cases s; cases t; cases hplanner; exact h

theorem boundCount_congr (hchannels : t.channels = s.channels) : t.boundCount = s.boundCount := by
  cases s; cases t; cases hchannels; rfl

theorem programmeLaw_congr (hprogramme : t.programme = s.programme) (hchannels : t.channels = s.channels)
    (hclock : t.clock.isSet = s.clock.isSet) (hlink : t.link.configured = s.link.configured) (h : s.ProgrammeLaw) :
    t.ProgrammeLaw := by
  simp only [State.ProgrammeLaw, boundCount_congr hchannels, hprogramme, hclock, hlink]
  exact h

theorem mainsLaw_congr (hsegments : t.segments = s.segments) (h : s.MainsLaw) : t.MainsLaw := by
  cases s; cases t; cases hsegments; exact h

theorem attentionLaw_congr (hattention : t.attention = s.attention)
    (hplanner : t.planner.publishedOverdue = s.planner.publishedOverdue) (h : s.AttentionLaw) : t.AttentionLaw := by
  simp only [State.AttentionLaw, State.causeAt_congr hattention, hattention, hplanner]
  exact h

theorem portLaw_congr (hport : t.port = s.port) (h : s.PortLaw) : t.PortLaw := by
  cases s; cases t; cases hport; exact h

end

end Sys2Proof.Machine

end

section
/-! PROOF. The register's laws (chapter 01) through a record that is rewritten in its place, a record that is freed, and
a record that is enrolled. -/

namespace Sys2Proof.Machine

/-! ### Words -/

/-- The record keeps its location, zone, class and neighbours. -/
structure Record.SamePlace (r q : Record) : Prop where
  segment : q.segment = r.segment
  address : q.address = r.address
  zone : q.zone = r.zone
  cls : q.cls = r.cls
  neighbours : q.neighbours = r.neighbours

/-- The record's hold agrees with its state (R65). -/
def Record.HoldFits (r : Record) : Prop :=
  (r.state = .recharging → r.hold.isSome = true)
    ∧ (r.state = .ordered ∨ r.state = .testing ∨ r.state = .faulty ∨ r.state = .silent → r.hold = none)

/-- The settings of every zone and the figures of every class stand; their counts may change. -/
def State.SameSettings (s t : State) : Prop :=
  (∀ z, (t.zoneAt z).isDefined = (s.zoneAt z).isDefined ∧ (t.zoneAt z).profile = (s.zoneAt z).profile
      ∧ (t.zoneAt z).percent = (s.zoneAt z).percent ∧ (t.zoneAt z).held = (s.zoneAt z).held)
    ∧ ∀ c, (t.classAt c).figures = (s.classAt c).figures

/-- Record `i` of `s` is rewritten in its place, from `r` to `q`. -/
structure State.Rewrites (s t : State) (i : Nat) (r q : Record) : Prop where
  there : s.record? i = some r
  records : t.luminaires = s.luminaires.store i q
  place : r.SamePlace q
  lookup : t.lookup = s.lookup
  settings : s.SameSettings t

theorem State.SameSettings.refl (s : State) : s.SameSettings s := ⟨fun _ => ⟨rfl, rfl, rfl, rfl⟩, fun _ => rfl⟩

theorem State.SameSettings.trans {s t u : State} (h : s.SameSettings t) (k : t.SameSettings u) : s.SameSettings u := by
  obtain ⟨hz, hc⟩ := h
  obtain ⟨kz, kc⟩ := k
  refine ⟨fun z => ?_, fun c => (kc c).trans (hc c)⟩
  obtain ⟨h1, h2, h3, h4⟩ := hz z
  obtain ⟨k1, k2, k3, k4⟩ := kz z
  exact ⟨k1.trans h1, k2.trans h2, k3.trans h3, k4.trans h4⟩

/-- Tables that are the same have the same settings. -/
theorem State.SameSettings.of_eq {s t : State} (hz : t.zones = s.zones) (hc : t.classes = s.classes) :
    s.SameSettings t :=
  ⟨fun z => by simp [State.zoneAt_congr hz], fun c => by simp [State.classAt_congr hc]⟩

/-- A zone whose counts are written keeps its settings. -/
theorem State.SameSettings.setZone (s : State) {z : Nat} {e : Zone} (h1 : e.isDefined = (s.zoneAt z).isDefined)
    (h2 : e.profile = (s.zoneAt z).profile) (h3 : e.percent = (s.zoneAt z).percent) (h4 : e.held = (s.zoneAt z).held) :
    s.SameSettings (s.setZone z e) := by
  refine ⟨fun y => ?_, fun _ => rfl⟩
  rw [State.setZone_zoneAt]
  split
  next hy => subst hy; exact ⟨h1, h2, h3, h4⟩
  · exact ⟨rfl, rfl, rfl, rfl⟩

/-- A class whose users are counted keeps its figures. -/
theorem State.SameSettings.setClass (s : State) {c : Nat} {e : ClassEntry} (h : e.figures = (s.classAt c).figures) :
    s.SameSettings (s.setClass c e) := by
  refine ⟨fun _ => ⟨rfl, rfl, rfl, rfl⟩, fun d => ?_⟩
  rw [State.setClass_classAt]
  split
  next hd => subst hd; exact h
  · rfl

theorem State.transition_settings (s : State) (i : Nat) (b a : Record) : s.SameSettings (s.transition i b a) :=
  (State.SameSettings.of_eq (t := s.setRecord i a) rfl rfl).trans (State.SameSettings.setZone _ rfl rfl rfl rfl)

theorem State.joinZone_settings (s : State) (z : Nat) (st : RecordState) : s.SameSettings (s.joinZone z st) :=
  State.SameSettings.setZone _ rfl rfl rfl rfl

theorem State.leaveZone_settings (s : State) (z : Nat) (st : RecordState) : s.SameSettings (s.leaveZone z st) :=
  State.SameSettings.setZone _ rfl rfl rfl rfl

theorem State.joinClass_settings (s : State) (c : Nat) : s.SameSettings (s.joinClass c) :=
  State.SameSettings.setClass _ rfl

theorem State.leaveClass_settings (s : State) (c : Nat) : s.SameSettings (s.leaveClass c) :=
  State.SameSettings.setClass _ rfl

/-! ### A record rewritten in its place -/

section
variable {s t : State} {i : Nat} {r q : Record}

theorem State.Rewrites.setRecord (hr : s.record? i = some r) (hp : r.SamePlace q) :
    s.Rewrites (s.setRecord i q) i r q := ⟨hr, rfl, hp, rfl, .of_eq rfl rfl⟩

theorem State.Rewrites.transition (hr : s.record? i = some r) (hp : r.SamePlace q) :
    s.Rewrites (s.transition i r q) i r q := ⟨hr, rfl, hp, rfl, s.transition_settings i r q⟩

theorem State.Rewrites.reads (h : s.Rewrites t i r q) (j : Nat) :
    t.record? j = if i = j then some q else s.record? j := by
  rw [State.record?, h.records]; exact Table.at?_store ..

/-- Every record after a rewriting was there before, in the same place. -/
theorem State.Rewrites.source (h : s.Rewrites t i r q) {j : Nat} {p : Record} (hp : t.record? j = some p) :
    ∃ p', s.record? j = some p' ∧ p'.SamePlace p ∧ ((j = i ∧ p' = r ∧ p = q) ∨ (j ≠ i ∧ p' = p)) := by
  rw [h.reads] at hp
  split at hp
  next hij => cases hp; subst hij; exact ⟨r, h.there, h.place, .inl ⟨rfl, rfl, rfl⟩⟩
  next hij => exact ⟨p, hp, ⟨rfl, rfl, rfl, rfl, rfl⟩, .inr ⟨Ne.symm hij, rfl⟩⟩

/-- Every record before a rewriting is there afterwards, in the same place. -/
theorem State.Rewrites.target (h : s.Rewrites t i r q) {j : Nat} {p : Record} (hp : s.record? j = some p) :
    ∃ p', t.record? j = some p' ∧ p.SamePlace p' := by
  rw [h.reads]
  split
  next hij => subst hij; cases h.there.symm.trans hp; exact ⟨q, rfl, h.place⟩
  next hij => exact ⟨p, hp, ⟨rfl, rfl, rfl, rfl, rfl⟩⟩

theorem namesLaw_rewrite (w : s.Rewrites t i r q) (h : s.NamesLaw) : t.NamesLaw := by
  intro j p hp
  obtain ⟨p', hp', hplace, -⟩ := w.source hp
  obtain ⟨hj, hseg, haddr, hzone, hcls, hfig, hdef⟩ := h j p' hp'
  obtain ⟨hsz, hsc⟩ := w.settings
  rw [hplace.segment, hplace.address, hplace.zone, hplace.cls, hsc, (hsz _).1]
  exact ⟨hj, hseg, haddr, hzone, hcls, hfig, hdef⟩

theorem lookupLaw_rewrite (w : s.Rewrites t i r q) (h : s.LookupLaw) : t.LookupLaw := by
  intro g a j ha
  rw [State.locate_congr w.lookup, h g a j ha]
  constructor
  · rintro ⟨p, hp, hg, ha⟩
    obtain ⟨p', hp', hplace⟩ := w.target hp
    exact ⟨p', hp', hplace.segment.trans hg, hplace.address.trans ha⟩
  · rintro ⟨p, hp, hg, ha⟩
    obtain ⟨p', hp', hplace, -⟩ := w.source hp
    exact ⟨p', hp', hplace.segment.symm.trans hg, hplace.address.symm.trans ha⟩

theorem neighbourLaw_rewrite (w : s.Rewrites t i r q) (h : s.NeighbourLaw) : t.NeighbourLaw := by
  intro j p hp
  obtain ⟨p', hp', hplace, -⟩ := w.source hp
  obtain ⟨hnodup, hlen, hself, hsymm⟩ := h j p' hp'
  rw [hplace.neighbours]
  refine ⟨hnodup, hlen, hself, fun n hn => ?_⟩
  obtain ⟨m, hm, hjm⟩ := hsymm n hn
  obtain ⟨m', hm', hmplace⟩ := w.target hm
  exact ⟨m', hm', hmplace.neighbours ▸ hjm⟩

/-- A record that comes under test must have no neighbour under test (R23). -/
theorem darknessLaw_rewrite (w : s.Rewrites t i r q) (hn : s.NeighbourLaw) (h : s.DarknessLaw)
    (hdark : q.state.inTest = true →
      r.state.inTest = true ∨ ∀ n ∈ r.neighbours, ∀ p, s.record? n = some p → p.state.inTest = false) :
    t.DarknessLaw := by
  -- A pair of neighbours with the rewritten record on one side.
  have hside {n : Nat} {p : Record} (hnr : n ∈ r.neighbours) (hp : s.record? n = some p) (hq : q.state.inTest = true)
      (hpt : p.state.inTest = true) : False := by
    rcases hdark hq with hr | hfree
    · exact h i r n p w.there hp hnr ⟨hr, hpt⟩
    · exact Bool.false_ne_true ((hfree n hnr p hp).symm.trans hpt)
  intro j p n m hp hm hnp ⟨hpt, hmt⟩
  obtain ⟨p', hp', hpplace, hpcase⟩ := w.source hp
  obtain ⟨m', hm', -, hmcase⟩ := w.source hm
  rw [hpplace.neighbours] at hnp
  obtain ⟨-, -, hself, hsymm⟩ := hn j p' hp'
  rcases hpcase with ⟨rfl, rfl, rfl⟩ | ⟨-, rfl⟩ <;> rcases hmcase with ⟨rfl, rfl, rfl⟩ | ⟨-, rfl⟩
  · exact hself hnp
  · exact hside hnp hm' hpt hmt
  · obtain ⟨m'', hm'', hjm⟩ := hsymm n hnp
    cases hm'.symm.trans hm''
    exact hside hjm hp' hmt hpt
  · exact h j p' n m' hp' hm' hnp ⟨hpt, hmt⟩

theorem holdLaw_rewrite (w : s.Rewrites t i r q) (h : s.HoldLaw) (hq : q.HoldFits) : t.HoldLaw := by
  intro j p hp
  obtain ⟨p', hp', -, ⟨rfl, rfl, rfl⟩ | ⟨-, rfl⟩⟩ := w.source hp
  · exact hq
  · exact h j p' hp'

/-- A count of records by class or zone is not touched by what stays in its place. -/
theorem countRecords_rewrite (w : s.Rewrites t i r q) (hc : Table.Rising s.luminaires) (p : Record → Bool) :
    t.countRecords p + r.counted p = s.countRecords p + q.counted p := by
  rw [← s.countRecords_setRecord p hc w.there q, State.countRecords_congr (s := s.setRecord i q) w.records]

theorem classUsers_rewrite (w : s.Rewrites t i r q) (hc : Table.Rising s.luminaires)
    (hclasses : t.classes = s.classes) (h : s.ClassUsers) : t.ClassUsers := by
  intro c
  have hcount := countRecords_rewrite w hc fun r => r.cls == c
  simp only [Record.counted, w.place.cls] at hcount
  rw [State.classAt_congr hclasses, h c]
  omega

/-- A rewriting between states of the same cover leaves every zone's counts. -/
theorem zoneCounts_rewrite (w : s.Rewrites t i r q) (hc : Table.Rising s.luminaires) (hzones : t.zones = s.zones)
    (hstate : q.state.uncovered = r.state.uncovered) (h : s.ZoneCounts) : t.ZoneCounts := by
  intro z
  have hpop := countRecords_rewrite w hc fun r => r.zone == z
  have hunc := countRecords_rewrite w hc fun r => r.zone == z && r.state.uncovered
  simp only [Record.counted, w.place.zone, hstate] at hpop hunc
  rw [State.zoneAt_congr hzones, (h z).1, (h z).2]
  exact ⟨by omega, by omega⟩

theorem RecordState.uncoveredCount_toNat (st : RecordState) : (if st.uncovered = true then 1 else 0) = st.uncoveredCount := rfl

/-- A transition moves its zone's uncovered count with the record (R9). -/
theorem zoneCounts_transition (hc : Table.Rising s.luminaires) (hr : s.record? i = some r) (hp : r.SamePlace q)
    (h : s.ZoneCounts) : (s.transition i r q).ZoneCounts := by
  have w := State.Rewrites.transition hr hp
  intro z
  have hpop := countRecords_rewrite w hc fun r => r.zone == z
  have hunc := countRecords_rewrite w hc fun r => r.zone == z && r.state.uncovered
  have hle := State.counted_le_countRecords (fun r => r.zone == z && r.state.uncovered) hr
  simp only [Record.counted, hp.zone] at hpop hunc hle
  obtain ⟨hzp, hzu⟩ := h z
  rw [State.transition_zoneAt, hp.zone]
  by_cases hz : r.zone = z
  · simp only [hz, beq_self_eq_true, Bool.true_and, RecordState.uncoveredCount_toNat] at hpop hunc hle
    simp only [hz, if_true, Zone.recount, hzp, hzu]
    exact ⟨by omega, by omega⟩
  · simp only [beq_eq_false_iff_ne.mpr hz, Bool.false_and, Bool.false_eq_true, if_false] at hpop hunc
    rw [if_neg hz, hzp, hzu]
    exact ⟨by omega, by omega⟩

/-- The register's laws through a transition of a record. -/
theorem registerLaws_transition (hc : Table.Rising s.luminaires) (h : s.RegisterLaws) (hr : s.record? i = some r)
    (hp : r.SamePlace q)
    (hdark : q.state.inTest = true →
      r.state.inTest = true ∨ ∀ n ∈ r.neighbours, ∀ p, s.record? n = some p → p.state.inTest = false)
    (hhold : q.HoldFits) : (s.transition i r q).RegisterLaws :=
  have w := State.Rewrites.transition hr hp
  { names := namesLaw_rewrite w h.names
    zoneCounts := zoneCounts_transition hc hr hp h.zoneCounts
    classUsers := classUsers_rewrite w hc rfl h.classUsers
    lookup := lookupLaw_rewrite w h.lookup
    neighbours := neighbourLaw_rewrite w h.neighbours
    darkness := darknessLaw_rewrite w h.neighbours h.darkness hdark
    holds := holdLaw_rewrite w h.holds hhold }

/-- The register's laws through a rewriting that leaves the record's state and hold. -/
theorem registerLaws_setRecord (hc : Table.Rising s.luminaires) (h : s.RegisterLaws) (hr : s.record? i = some r)
    (hp : r.SamePlace q) (hstate : q.state = r.state) (hhold : q.hold = r.hold) : (s.setRecord i q).RegisterLaws :=
  have w := State.Rewrites.setRecord hr hp
  { names := namesLaw_rewrite w h.names
    zoneCounts := zoneCounts_rewrite w hc rfl (by rw [hstate]) h.zoneCounts
    classUsers := classUsers_rewrite w hc rfl h.classUsers
    lookup := lookupLaw_rewrite w h.lookup
    neighbours := neighbourLaw_rewrite w h.neighbours
    darkness := darknessLaw_rewrite w h.neighbours h.darkness fun hq => .inl (hstate ▸ hq)
    holds := holdLaw_rewrite w h.holds (by
      have hfits : r.HoldFits := h.holds i r hr
      rwa [Record.HoldFits, hstate, hhold]) }

end

/-! ### A record freed (R24) -/

section
variable {s : State} {i : Nat} {r : Record}

theorem State.freeRecord_settings (s : State) (i : Nat) (r : Record) : s.SameSettings (s.freeRecord i r) := by
  refine ⟨fun z => ?_, fun c => ?_⟩
  · rw [State.freeRecord_zoneAt]; split <;> exact ⟨rfl, rfl, rfl, rfl⟩
  · rw [State.freeRecord_classAt]; split <;> rfl

/-- Every record left after a freeing was there before, and has lost at most the freed one as a neighbour. -/
theorem State.freeRecord_source (hn : s.NeighbourLaw) (hr : s.record? i = some r) {j : Nat} {p : Record}
    (hp : (s.freeRecord i r).record? j = some p) :
    j ≠ i ∧ ∃ p', s.record? j = some p' ∧ p = { p' with neighbours := p'.neighbours.filter fun m => m != i } := by
  rw [State.freeRecord_record?] at hp
  split at hp
  · cases hp
  next hj =>
    refine ⟨hj, ?_⟩
    split at hp
    · obtain ⟨p', hp', he⟩ := Option.map_eq_some_iff.mp hp
      exact ⟨p', hp', he.symm⟩
    next hnot =>
      refine ⟨p, hp, ?_⟩
      have hip : i ∉ p.neighbours := fun hi => by
        obtain ⟨-, -, -, hsymm⟩ := hn j p hp
        obtain ⟨r', hr', hjr⟩ := hsymm i hi
        cases hr.symm.trans hr'
        exact hnot hjr
      have hall : p.neighbours.filter (fun m => m != i) = p.neighbours :=
        List.filter_eq_self.mpr fun m hm => bne_iff_ne.mpr fun he => hip (by rwa [← he])
      rw [hall]

/-- Every other record is left after a freeing. -/
theorem State.freeRecord_target (hn : s.NeighbourLaw) (hr : s.record? i = some r) {j : Nat} {p : Record} (hj : j ≠ i)
    (hp : s.record? j = some p) :
    (s.freeRecord i r).record? j = some { p with neighbours := p.neighbours.filter fun m => m != i } := by
  have hsome : ((s.freeRecord i r).record? j).isSome = true := by
    rw [State.freeRecord_record?, if_neg hj]
    split <;> simp [hp]
  obtain ⟨p', hp'⟩ := Option.isSome_iff_exists.mp hsome
  obtain ⟨-, p'', hp'', he⟩ := State.freeRecord_source hn hr hp'
  cases hp.symm.trans hp''
  rw [hp', he]

theorem lookupLaw_freeRecord (h : s.RegisterLaws) (hr : s.record? i = some r) : (s.freeRecord i r).LookupLaw := by
  obtain ⟨-, -, hraddr, -⟩ := h.names i r hr
  have hself : s.locate r.segment r.address = some i := (h.lookup _ _ _ hraddr).mpr ⟨r, hr, rfl, rfl⟩
  intro g a j ha
  rw [State.freeRecord_locate]
  split
  next hkey =>
    obtain ⟨rfl, rfl⟩ := (locationKey_inj hraddr ha).mp hkey
    refine iff_of_false (fun hnone => by cases hnone) ?_
    rintro ⟨p, hp, hg, ha'⟩
    obtain ⟨hj, p', hp', rfl⟩ := State.freeRecord_source h.neighbours hr hp
    have hsame := (h.lookup _ _ j hraddr).mpr ⟨p', hp', hg, ha'⟩
    exact absurd (Option.some.inj (hsame.symm.trans hself)) hj
  next hkey =>
    rw [h.lookup g a j ha]
    constructor
    · rintro ⟨p, hp, hg, ha'⟩
      have hj : j ≠ i := by
        rintro rfl
        cases hr.symm.trans hp
        exact hkey (by rw [hg, ha'])
      exact ⟨_, State.freeRecord_target h.neighbours hr hj hp, hg, ha'⟩
    · rintro ⟨p, hp, hg, ha'⟩
      obtain ⟨-, p', hp', rfl⟩ := State.freeRecord_source h.neighbours hr hp
      exact ⟨p', hp', hg, ha'⟩

theorem neighbourLaw_freeRecord (hn : s.NeighbourLaw) (hr : s.record? i = some r) : (s.freeRecord i r).NeighbourLaw := by
  intro j p hp
  obtain ⟨hj, p', hp', rfl⟩ := State.freeRecord_source hn hr hp
  obtain ⟨hnodup, hlen, hself, hsymm⟩ := hn j p' hp'
  refine ⟨hnodup.filter _, (List.length_filter_le _ _).trans hlen, fun hmem => hself (List.mem_filter.mp hmem).1,
    fun n hmem => ?_⟩
  obtain ⟨hnp, hni⟩ := List.mem_filter.mp hmem
  obtain ⟨m, hm, hjm⟩ := hsymm n hnp
  exact ⟨_, State.freeRecord_target hn hr (bne_iff_ne.mp hni) hm, List.mem_filter.mpr ⟨hjm, bne_iff_ne.mpr hj⟩⟩

/-- The register's laws through the freeing of a record (R24). -/
theorem registerLaws_freeRecord (hc : Table.Rising s.luminaires) (h : s.RegisterLaws) (hr : s.record? i = some r) :
    (s.freeRecord i r).RegisterLaws := by
  have hself : i ∉ r.neighbours := (h.neighbours i r hr).2.2.1
  have hcount {p : Record → Bool} (hp : NotOfNeighbours p) := State.countRecords_freeRecord hp hc hr hself
  refine
    { names := fun j p hp => ?names, zoneCounts := fun z => ?zoneCounts, classUsers := fun c => ?classUsers
      lookup := lookupLaw_freeRecord h hr, neighbours := neighbourLaw_freeRecord h.neighbours hr
      darkness := fun j p n m hp hm hnp hboth => ?darkness, holds := fun j p hp => ?holds }
  case names =>
    obtain ⟨-, p', hp', rfl⟩ := State.freeRecord_source h.neighbours hr hp
    obtain ⟨hsz, hsc⟩ := s.freeRecord_settings i r
    have hnames := h.names j p' hp'
    rwa [hsc, (hsz _).1]
  case zoneCounts =>
    have hpop := hcount (p := fun r => r.zone == z) fun _ _ => rfl
    have hunc := hcount (p := fun r => r.zone == z && r.state.uncovered) fun _ _ => rfl
    obtain ⟨hzp, hzu⟩ := h.zoneCounts z
    simp only [Record.counted] at hpop hunc
    rw [State.freeRecord_zoneAt]
    by_cases hz : z = r.zone
    · simp only [hz, beq_self_eq_true, Bool.true_and, if_true, RecordState.uncoveredCount_toNat] at hpop hunc hzp hzu
      simp only [hz, if_true, Zone.leave, hzp, hzu]
      exact ⟨by omega, by omega⟩
    · simp only [beq_eq_false_iff_ne.mpr (Ne.symm hz), Bool.false_and, Bool.false_eq_true, if_false] at hpop hunc
      rw [if_neg hz, hzp, hzu]
      exact ⟨by omega, by omega⟩
  case classUsers =>
    have husers := hcount (p := fun r => r.cls == c) fun _ _ => rfl
    simp only [Record.counted] at husers
    rw [State.freeRecord_classAt]
    by_cases hc : c = r.cls
    · have hu := h.classUsers c
      simp only [hc, beq_self_eq_true, if_true] at husers hu
      simp only [hc, if_true, hu]
      omega
    · simp only [beq_eq_false_iff_ne.mpr (Ne.symm hc), Bool.false_eq_true, if_false] at husers
      rw [if_neg hc, h.classUsers c]
      omega
  case darkness =>
    obtain ⟨-, p', hp', rfl⟩ := State.freeRecord_source h.neighbours hr hp
    obtain ⟨-, m', hm', rfl⟩ := State.freeRecord_source h.neighbours hr hm
    exact h.darkness j p' n m' hp' hm' (List.mem_filter.mp hnp).1 hboth
  case holds =>
    obtain ⟨-, p', hp', rfl⟩ := State.freeRecord_source h.neighbours hr hp
    exact h.holds j p' hp'

end

end Sys2Proof.Machine

end

section
/-! PROOF. The register's laws through ENROL and AMEND: a record whose links are made anew, and the changes of an AMEND
one by one (R17 to R23). -/

namespace Sys2Proof.Machine

/-! ### Links made anew -/

/-- From `s` to `t`, record `i` comes to be `r` and every other record keeps all but its link to `i`, which it has
exactly where `r` names it. -/
structure State.Relinks (s t : State) (i : Nat) (r : Record) : Prop where
  self : t.record? i = some r
  source : ∀ j p, j ≠ i → t.record? j = some p →
    ∃ p', s.record? j = some p' ∧ p = { p' with neighbours := p.neighbours } ∧ p.neighbours.Nodup
      ∧ p.neighbours.length ≤ 6 ∧ ∀ m, m ∈ p.neighbours ↔ (m ≠ i ∧ m ∈ p'.neighbours) ∨ (m = i ∧ j ∈ r.neighbours)
  target : ∀ j p, j ≠ i → s.record? j = some p → ∃ q, t.record? j = some q

section
variable {s t : State} {i : Nat} {r : Record}

/-- A record of a state relinked is the one relinked, or was there before but for its links. -/
theorem State.Relinks.cases (w : s.Relinks t i r) {j : Nat} {p : Record} (hp : t.record? j = some p) :
    (j = i ∧ p = r) ∨ (j ≠ i ∧ ∃ p', s.record? j = some p' ∧ p = { p' with neighbours := p.neighbours }) := by
  by_cases hj : j = i
  · subst hj; exact .inl ⟨rfl, Option.some.inj (hp.symm.trans w.self)⟩
  · obtain ⟨p', hp', he, -⟩ := w.source j p hj hp
    exact .inr ⟨hj, p', hp', he⟩

theorem neighbourLaw_relink (w : s.Relinks t i r) (h : s.NeighbourLaw) (hfit : s.ListFits i r.neighbours) :
    t.NeighbourLaw := by
  intro j p hp
  by_cases hj : j = i
  · subst hj
    cases hp.symm.trans w.self
    refine ⟨hfit.nodup, hfit.short, hfit.other, fun n hn => ?_⟩
    have hnj : n ≠ j := fun he => hfit.other (he ▸ hn)
    obtain ⟨q, hq⟩ := hfit.enrolled n hn
    obtain ⟨q', hq'⟩ := w.target n q hnj hq
    obtain ⟨_, _, _, _, _, hmem⟩ := w.source n q' hnj hq'
    exact ⟨q', hq', (hmem j).mpr (.inr ⟨rfl, hn⟩)⟩
  · obtain ⟨p', hp', -, hnodup, hlen, hmem⟩ := w.source j p hj hp
    obtain ⟨-, -, hself, hsymm⟩ := h j p' hp'
    refine ⟨hnodup, hlen, fun hjj => ?_, fun n hn => ?_⟩
    · rcases (hmem j).mp hjj with ⟨-, hjp⟩ | ⟨hji, -⟩
      · exact hself hjp
      · exact hj hji
    · rcases (hmem n).mp hn with ⟨hni, hnp⟩ | ⟨rfl, hjr⟩
      · obtain ⟨q, hq, hjq⟩ := hsymm n hnp
        obtain ⟨q', hq'⟩ := w.target n q hni hq
        obtain ⟨q'', hq'', -, -, -, hmem'⟩ := w.source n q' hni hq'
        cases hq.symm.trans hq''
        exact ⟨q', hq', (hmem' j).mpr (.inl ⟨hj, hjq⟩)⟩
      · exact ⟨r, w.self, hjr⟩

theorem darknessLaw_relink (w : s.Relinks t i r) (h : s.DarknessLaw) (hfit : s.ListFits i r.neighbours)
    (hdark : r.state.inTest = true →
      ∀ n ∈ r.neighbours, ∀ q, s.record? n = some q → q.state.inTest = false) : t.DarknessLaw := by
  -- A neighbour of the record relinked is not under test with it.
  have hside {n : Nat} {p : Record} (hn : n ∈ r.neighbours) (hp : t.record? n = some p) (hrt : r.state.inTest = true)
      (hpt : p.state.inTest = true) : False := by
    rcases w.cases hp with ⟨rfl, -⟩ | ⟨-, p', hp', he⟩
    · exact hfit.other hn
    · rw [he] at hpt
      exact Bool.false_ne_true ((hdark hrt n hn p' hp').symm.trans hpt)
  intro j p n q hp hq hn ⟨hpt, hqt⟩
  by_cases hj : j = i
  · subst hj
    cases hp.symm.trans w.self
    exact hside hn hq hpt hqt
  · obtain ⟨p', hp', he, -, -, hmem⟩ := w.source j p hj hp
    rcases (hmem n).mp hn with ⟨hni, hnp⟩ | ⟨rfl, hjr⟩
    · obtain ⟨q', hq', he', -⟩ := w.source n q hni hq
      rw [he] at hpt
      rw [he'] at hqt
      exact h j p' n q' hp' hq' hnp ⟨hpt, hqt⟩
    · cases hq.symm.trans w.self
      exact hside hjr hp hqt hpt

/-- The list of a record that gains `i` as a neighbour. -/
theorem List.nodup_append_single {l : List Nat} {i : Nat} (hl : l.Nodup) (hi : i ∉ l) : (l ++ [i]).Nodup := by
  rw [← List.concat_eq_append]
  exact hl.concat hi

end

/-! ### ENROL (R19) -/

section
variable {s : State} {i : Nat} {r : Record}

theorem State.enrolRecord_frame (s : State) (i : Nat) (r : Record) :
    s.enrolRecord i r
      = { s with
          luminaires := (s.enrolRecord i r).luminaires
          zones := (s.enrolRecord i r).zones
          classes := (s.enrolRecord i r).classes
          lookup := (s.enrolRecord i r).lookup } := by
  unfold State.enrolRecord
  rw [State.linkAll_frame]; rfl

theorem State.enrolRecord_record? (hfit : s.ListFits i r.neighbours) (j : Nat) :
    (s.enrolRecord i r).record? j
      = if j = i then some r
        else if j ∈ r.neighbours then (s.record? j).map fun q => { q with neighbours := q.neighbours ++ [i] }
        else s.record? j := by
  have hlinks := State.linkAll_record? (s.setRecord i r) i hfit.nodup j
  rw [State.setRecord_record?] at hlinks
  refine Eq.trans ?_ (hlinks.trans ?_)
  · rfl
  · by_cases hj : j = i
    · subst hj; simp [hfit.other]
    · simp [hj, Ne.symm hj]

theorem State.enrolRecord_zoneAt (s : State) (i : Nat) (r : Record) (z : Nat) :
    (s.enrolRecord i r).zoneAt z = if z = r.zone then (s.zoneAt z).join r.state else s.zoneAt z := by
  have h : ((s.setRecord i r).linkAll i r.neighbours).zoneAt = s.zoneAt := by rw [State.linkAll_frame]; rfl
  show (((s.setRecord i r).linkAll i r.neighbours).joinZone r.zone r.state).zoneAt z = _
  unfold State.joinZone
  rw [State.setZone_zoneAt, h]
  by_cases hz : z = r.zone
  · subst hz; simp
  · simp [hz, Ne.symm hz]

theorem State.enrolRecord_classAt (s : State) (i : Nat) (r : Record) (c : Nat) :
    (s.enrolRecord i r).classAt c
      = if c = r.cls then { s.classAt c with users := (s.classAt c).users + 1 } else s.classAt c := by
  have h : (((s.setRecord i r).linkAll i r.neighbours).joinZone r.zone r.state).classAt = s.classAt := by
    rw [State.linkAll_frame]; rfl
  show ((((s.setRecord i r).linkAll i r.neighbours).joinZone r.zone r.state).joinClass r.cls).classAt c = _
  unfold State.joinClass
  rw [State.setClass_classAt, h]
  by_cases hz : c = r.cls
  · subst hz; simp
  · simp [hz, Ne.symm hz]

theorem State.enrolRecord_locate (s : State) (i : Nat) (r : Record) (g a : Nat) :
    (s.enrolRecord i r).locate g a
      = if locationKey r.segment r.address = locationKey g a then some i else s.locate g a := by
  have h : ((((s.setRecord i r).linkAll i r.neighbours).joinZone r.zone r.state).joinClass r.cls).locate = s.locate := by
    rw [State.linkAll_frame]; rfl
  show (((((s.setRecord i r).linkAll i r.neighbours).joinZone r.zone r.state).joinClass r.cls).addLocation
    r.segment r.address i).locate g a = _
  rw [State.addLocation_locate, h]

theorem State.enrolRecord_settings (s : State) (i : Nat) (r : Record) : s.SameSettings (s.enrolRecord i r) := by
  refine ⟨fun z => ?_, fun c => ?_⟩
  · rw [State.enrolRecord_zoneAt]; split <;> exact ⟨rfl, rfl, rfl, rfl⟩
  · rw [State.enrolRecord_classAt]; split <;> rfl

/-- ENROL adds its record to every count that it belongs to. -/
theorem State.countRecords_enrolRecord {p : Record → Bool} (hp : NotOfNeighbours p) (hc : Table.Rising s.luminaires)
    (hfree : s.record? i = none) : (s.enrolRecord i r).countRecords p = s.countRecords p + r.counted p := by
  have hrise : Table.Rising (s.setRecord i r).luminaires := Table.rising_store _ _ hc
  rw [← State.countRecords_setRecord_new p hfree r]
  exact (State.linkAll_counts hp hrise i r.neighbours).2

theorem State.relinks_enrolRecord (h : s.NeighbourLaw) (e : s.Enrolable i r) :
    s.Relinks (s.enrolRecord i r) i r where
  self := by rw [State.enrolRecord_record? e.list, if_pos rfl]
  source j p hj hp := by
    rw [State.enrolRecord_record? e.list, if_neg hj] at hp
    -- Nobody names the slot that was FREE.
    have hnobody {q : Record} (hq : s.record? j = some q) : i ∉ q.neighbours := fun hi => by
      obtain ⟨-, -, -, hsymm⟩ := h j q hq
      obtain ⟨_, hi', -⟩ := hsymm i hi
      cases e.slotFree.symm.trans hi'
    split at hp
    next hjr =>
      obtain ⟨p', hp', rfl⟩ := Option.map_eq_some_iff.mp hp
      have hnot := hnobody hp'
      obtain ⟨hnodup, -⟩ := h j p' hp'
      have hroom := e.room j hjr p' hp'
      refine ⟨p', hp', rfl, List.nodup_append_single hnodup hnot, ?_, fun m => ?_⟩
      · simp only [List.length_append, List.length_singleton]; omega
      · simp only [List.mem_append, List.mem_singleton, hjr, and_true]
        constructor
        · rintro (hm | hm)
          · exact .inl ⟨fun he => hnot (he ▸ hm), hm⟩
          · exact .inr hm
        · exact Or.imp_left And.right
    next hjr =>
      have hnot := hnobody hp
      obtain ⟨hnodup, hlen, -⟩ := h j p hp
      refine ⟨p, hp, rfl, hnodup, hlen, fun m => ?_⟩
      simp only [hjr, and_false, or_false]
      exact ⟨fun hm => ⟨fun he => hnot (he ▸ hm), hm⟩, And.right⟩
  target j p hj hp := by
    rw [State.enrolRecord_record? e.list, if_neg hj, hp]
    split
    · exact ⟨_, rfl⟩
    · exact ⟨_, rfl⟩

theorem registerLaws_enrolRecord (hc : Table.Rising s.luminaires) (h : s.RegisterLaws) (e : s.Enrolable i r)
    (hready : r.state = .ready) : (s.enrolRecord i r).RegisterLaws := by
  have w := State.relinks_enrolRecord h.neighbours e
  have hcount {p : Record → Bool} (hp : NotOfNeighbours p) := State.countRecords_enrolRecord (r := r) hp hc e.slotFree
  obtain ⟨hsz, hsc⟩ := s.enrolRecord_settings i r
  refine
    { names := fun j p hp => ?names, zoneCounts := fun z => ?zoneCounts, classUsers := fun c => ?classUsers
      lookup := fun g a j ha => ?lookup, neighbours := neighbourLaw_relink w h.neighbours e.list
      darkness := darknessLaw_relink w h.darkness e.list fun hin => ?darkness, holds := fun j p hp => ?holds }
  case names =>
    rw [hsc, (hsz _).1]
    rcases w.cases hp with ⟨rfl, rfl⟩ | ⟨-, p', hp', he⟩
    · exact ⟨e.index, e.segment, e.address, e.zone, e.cls, e.classDefined, e.zoneDefined⟩
    · rw [he]; exact h.names j p' hp'
  case zoneCounts =>
    have hpop := hcount (p := fun r => r.zone == z) fun _ _ => rfl
    have hunc := hcount (p := fun r => r.zone == z && r.state.uncovered) fun _ _ => rfl
    obtain ⟨hzp, hzu⟩ := h.zoneCounts z
    simp only [Record.counted] at hpop hunc
    rw [State.enrolRecord_zoneAt]
    by_cases hz : z = r.zone
    · simp only [hz, beq_self_eq_true, Bool.true_and, if_true, RecordState.uncoveredCount_toNat] at hpop hunc hzp hzu
      simp only [hz, if_true, Zone.join, hzp, hzu]
      exact ⟨by omega, by omega⟩
    · simp only [beq_eq_false_iff_ne.mpr (Ne.symm hz), Bool.false_and, Bool.false_eq_true, if_false] at hpop hunc
      rw [if_neg hz, hzp, hzu]
      exact ⟨by omega, by omega⟩
  case classUsers =>
    have husers := hcount (p := fun r => r.cls == c) fun _ _ => rfl
    simp only [Record.counted] at husers
    rw [State.enrolRecord_classAt]
    by_cases hc : c = r.cls
    · have hu := h.classUsers c
      simp only [hc, beq_self_eq_true, if_true] at husers hu
      simp only [hc, if_true, hu]
      omega
    · simp only [beq_eq_false_iff_ne.mpr (Ne.symm hc), Bool.false_eq_true, if_false] at husers
      rw [if_neg hc, h.classUsers c]
      omega
  case lookup =>
    rw [State.enrolRecord_locate]
    split
    next hkey =>
      have hloc := (locationKey_inj e.address ha).mp hkey
      obtain ⟨hg, ha'⟩ := hloc
      constructor
      · rintro ⟨⟩
        exact ⟨r, w.self, hg, ha'⟩
      · rintro ⟨p, hp, hpg, hpa⟩
        rcases w.cases hp with ⟨rfl, -⟩ | ⟨-, p', hp', he⟩
        · rfl
        · rw [he] at hpg hpa
          have hthere := (h.lookup g a j ha).mpr ⟨p', hp', hpg, hpa⟩
          cases (hg ▸ ha' ▸ e.locationFree).symm.trans hthere
    next hkey =>
      have hloc := mt (locationKey_inj e.address ha).mpr hkey
      rw [h.lookup g a j ha]
      constructor
      · rintro ⟨p, hp, hpg, hpa⟩
        have hj : j ≠ i := by
          rintro rfl
          cases e.slotFree.symm.trans hp
        obtain ⟨q, hq⟩ := w.target j p hj hp
        obtain ⟨p', hp', he, -⟩ := w.source j q hj hq
        cases hp.symm.trans hp'
        exact ⟨q, hq, by rw [he]; exact hpg, by rw [he]; exact hpa⟩
      · rintro ⟨p, hp, hpg, hpa⟩
        rcases w.cases hp with ⟨rfl, rfl⟩ | ⟨-, p', hp', he⟩
        · exact absurd ⟨hpg, hpa⟩ hloc
        · rw [he] at hpg hpa
          exact ⟨p', hp', hpg, hpa⟩
  case darkness =>
    rw [hready] at hin
    cases hin
  case holds =>
    rcases w.cases hp with ⟨rfl, rfl⟩ | ⟨-, p', hp', he⟩
    · simp [hready]
    · rw [he]; exact h.holds j p' hp'

end

end Sys2Proof.Machine

end

section
/-! PROOF. The register's laws through an AMEND (R20 to R23), change by change. -/

namespace Sys2Proof.Machine

/-! ### A record that is replaced -/

section
variable {s t : State} {i : Nat} {r q : Record}

/-- A record replaced by one with the same links is relinked to its own neighbours. -/
theorem State.relinks_replace (h : s.NeighbourLaw) (hr : s.record? i = some r)
    (hreads : ∀ j, t.record? j = if i = j then some q else s.record? j) (hq : q.neighbours = r.neighbours) :
    s.Relinks t i q where
  self := by rw [hreads, if_pos rfl]
  source j p hj hp := by
    rw [hreads, if_neg (Ne.symm hj)] at hp
    obtain ⟨hnodup, hlen, -, hsymm⟩ := h j p hp
    refine ⟨p, hp, rfl, hnodup, hlen, fun m => ?_⟩
    rw [hq]
    constructor
    · intro hm
      by_cases hmi : m = i
      · subst hmi
        obtain ⟨r', hr', hjr⟩ := hsymm m hm
        cases hr.symm.trans hr'
        exact .inr ⟨rfl, hjr⟩
      · exact .inl ⟨hmi, hm⟩
    · rintro (⟨-, hm⟩ | ⟨rfl, hjr⟩)
      · exact hm
      · obtain ⟨-, -, -, hsymm'⟩ := h m r hr
        obtain ⟨p', hp', hmp⟩ := hsymm' j hjr
        cases hp.symm.trans hp'
        exact hmp
  target j p hj hp := ⟨p, by rw [hreads, if_neg (Ne.symm hj), hp]⟩

/-- The neighbours of a record are a list that ENROL or AMEND would take. -/
theorem State.listFits_neighbours (h : s.NeighbourLaw) (hr : s.record? i = some r) : s.ListFits i r.neighbours := by
  obtain ⟨hnodup, hlen, hself, hsymm⟩ := h i r hr
  exact ⟨hlen, fun n hn => (hsymm n hn).imp fun _ => And.left, hself, hnodup⟩

theorem holdLaw_relink (w : s.Relinks t i q) (h : s.HoldLaw) (hr : s.record? i = some r) (hstate : q.state = r.state)
    (hhold : q.hold = r.hold) : t.HoldLaw := by
  intro j p hp
  rcases w.cases hp with ⟨rfl, rfl⟩ | ⟨-, p', hp', he⟩
  · have hfits := h j r hr
    rwa [← hstate, ← hhold] at hfits
  · rw [he]; exact h j p' hp'

/-- The laws of links, darkness and holds through a record replaced by one of the same links, state and hold. -/
theorem neighbourLaws_replace (h : s.RegisterLaws) (hr : s.record? i = some r)
    (hreads : ∀ j, t.record? j = if i = j then some q else s.record? j) (hq : q.neighbours = r.neighbours)
    (hstate : q.state = r.state) (hhold : q.hold = r.hold) : t.NeighbourLaw ∧ t.DarknessLaw ∧ t.HoldLaw := by
  have w := State.relinks_replace h.neighbours hr hreads hq
  have hfit : s.ListFits i q.neighbours := hq ▸ State.listFits_neighbours h.neighbours hr
  refine ⟨neighbourLaw_relink w h.neighbours hfit, darknessLaw_relink w h.darkness hfit fun hin n hn p hp => ?_,
    holdLaw_relink w h.holds hr hstate hhold⟩
  rw [hq] at hn
  rw [hstate] at hin
  exact Bool.not_eq_true _ |>.mp fun hpt => h.darkness i r n p hr hp hn ⟨hin, hpt⟩

/-- The lookup through a relinking that moves no record. -/
theorem lookupLaw_relink (w : s.Relinks t i q) (h : s.LookupLaw) (hr : s.record? i = some r)
    (hsegment : q.segment = r.segment) (haddress : q.address = r.address) (hlookup : t.lookup = s.lookup) :
    t.LookupLaw := by
  intro g a j ha
  rw [State.locate_congr hlookup, h g a j ha]
  constructor
  · rintro ⟨p, hp, hpg, hpa⟩
    by_cases hj : j = i
    · subst hj
      cases hr.symm.trans hp
      exact ⟨q, w.self, hsegment.trans hpg, haddress.trans hpa⟩
    · obtain ⟨p', hp'⟩ := w.target j p hj hp
      obtain ⟨p'', hp'', he, -⟩ := w.source j p' hj hp'
      cases hp.symm.trans hp''
      exact ⟨p', hp', by rw [he]; exact hpg, by rw [he]; exact hpa⟩
  · rintro ⟨p, hp, hpg, hpa⟩
    rcases w.cases hp with ⟨rfl, rfl⟩ | ⟨-, p', hp', he⟩
    · exact ⟨r, hr, hsegment.symm.trans hpg, haddress.symm.trans hpa⟩
    · rw [he] at hpg hpa
      exact ⟨p', hp', hpg, hpa⟩

theorem classUsers_of_counts (hclasses : t.classes = s.classes)
    (hcount : ∀ c, t.countRecords (fun r => r.cls == c) = s.countRecords fun r => r.cls == c) (h : s.ClassUsers) :
    t.ClassUsers := fun c => by rw [State.classAt_congr hclasses, hcount, h c]

theorem zoneCounts_of_counts (hzones : t.zones = s.zones)
    (hpop : ∀ z, t.countRecords (fun r => r.zone == z) = s.countRecords fun r => r.zone == z)
    (hunc : ∀ z, t.countRecords (fun r => r.zone == z && r.state.uncovered)
      = s.countRecords fun r => r.zone == z && r.state.uncovered) (h : s.ZoneCounts) : t.ZoneCounts := fun z => by
  rw [State.zoneAt_congr hzones, hpop, hunc]; exact h z

/-- A record replaced by one that a test does not tell from it leaves the count. -/
theorem State.countRecords_replace (hc : Table.Rising s.luminaires) (hr : s.record? i = some r)
    (ht : t.luminaires = (s.setRecord i q).luminaires) {p : Record → Bool} (hp : p q = p r) :
    t.countRecords p = s.countRecords p := by
  have hcount := s.countRecords_setRecord p hc hr q
  rw [Record.counted, Record.counted, hp] at hcount
  rw [State.countRecords_congr ht]
  omega

end

/-! ### The changes of LOCATION, CLASS and ZONE (R21, R22) -/

theorem State.amendLocation_locate (s : State) (i : Nat) (r : Record) (g a h b : Nat) :
    (s.amendLocation i r (some (g, a))).locate h b
      = if locationKey g a = locationKey h b then some i
        else if locationKey r.segment r.address = locationKey h b then none else s.locate h b := by
  refine (State.addLocation_locate ..).trans ?_
  rw [State.removeLocation_locate]; rfl

theorem State.amendClass_classAt (s : State) (i : Nat) (r : Record) {c : Nat} (hne : c ≠ r.cls) (d : Nat) :
    (s.amendClass i r (some c)).classAt d
      = if d = c then { s.classAt c with users := (s.classAt c).users + 1 }
        else if d = r.cls then { s.classAt r.cls with users := (s.classAt r.cls).users - 1 } else s.classAt d := by
  have hother (d : Nat) : ((s.setRecord i { r with cls := c }).leaveClass r.cls).classAt d
      = if r.cls = d then { s.classAt r.cls with users := (s.classAt r.cls).users - 1 } else s.classAt d :=
    State.setClass_classAt ..
  refine (State.setClass_classAt ..).trans ?_
  rw [hother, hother, if_neg (Ne.symm hne)]
  simp only [eq_comm]

theorem State.amendZone_zoneAt (s : State) (i : Nat) (r : Record) {z : Nat} (hne : z ≠ r.zone) (y : Nat) :
    (s.amendZone i r (some z)).zoneAt y
      = if y = z then (s.zoneAt z).join r.state
        else if y = r.zone then (s.zoneAt r.zone).leave r.state else s.zoneAt y := by
  have hother (y : Nat) : ((s.setRecord i { r with zone := z }).leaveZone r.zone r.state).zoneAt y
      = if r.zone = y then (s.zoneAt r.zone).leave r.state else s.zoneAt y := State.setZone_zoneAt ..
  refine (State.setZone_zoneAt ..).trans ?_
  rw [hother, hother, if_neg (Ne.symm hne)]
  simp only [eq_comm]

section
variable {s : State} {i : Nat} {r : Record} (hc : Table.Rising s.luminaires) (h : s.RegisterLaws)
  (hr : s.record? i = some r)
include hc h hr

theorem registerLaws_amendLocation {g a : Nat} (hg : g < 16) (ha : a < 256) (hfree : s.locate g a = none) :
    (s.amendLocation i r (some (g, a))).RegisterLaws := by
  have hreads (j : Nat) : (s.amendLocation i r (some (g, a))).record? j
      = if i = j then some { r with segment := g, address := a } else s.record? j := State.setRecord_record? ..
  obtain ⟨hneighbours, hdarkness, hholds⟩ := neighbourLaws_replace h hr hreads rfl rfl rfl
  obtain ⟨-, -, hraddr, -⟩ := h.names i r hr
  have hself : s.locate r.segment r.address = some i := (h.lookup _ _ _ hraddr).mpr ⟨r, hr, rfl, rfl⟩
  have hcount {p : Record → Bool} (hp : p { r with segment := g, address := a } = p r) :
      (s.amendLocation i r (some (g, a))).countRecords p = s.countRecords p := State.countRecords_replace hc hr rfl hp
  refine
    { names := fun j p hp => ?names
      zoneCounts := zoneCounts_of_counts (s := s) rfl (fun _ => hcount rfl) (fun _ => hcount rfl) h.zoneCounts
      classUsers := classUsers_of_counts (s := s) rfl (fun _ => hcount rfl) h.classUsers
      lookup := fun g' b j hb => ?lookup, neighbours := hneighbours, darkness := hdarkness, holds := hholds }
  case names =>
    rw [hreads] at hp
    split at hp
    next hij =>
      cases hp; subst hij
      obtain ⟨hi, -, -, hrest⟩ := h.names i r hr
      exact ⟨hi, hg, ha, hrest⟩
    · exact h.names j p hp
  case lookup =>
    rw [State.amendLocation_locate, hreads]
    by_cases hnew : locationKey g a = locationKey g' b
    · obtain ⟨rfl, rfl⟩ := (locationKey_inj ha hb).mp hnew
      rw [if_pos rfl]
      by_cases hij : i = j
      · subst hij; simp
      · rw [if_neg hij]
        refine iff_of_false (fun he => hij (Option.some.inj he)) fun hat => ?_
        cases hfree.symm.trans ((h.lookup g a j ha).mpr hat)
    · rw [if_neg hnew]
      have hnot : ¬(g = g' ∧ a = b) := mt (locationKey_inj ha hb).mpr hnew
      by_cases hold : locationKey r.segment r.address = locationKey g' b
      · rw [if_pos hold]
        obtain ⟨rfl, rfl⟩ := (locationKey_inj hraddr hb).mp hold
        refine iff_of_false (fun he => by cases he) ?_
        rintro ⟨p, hp, hpg, hpa⟩
        split at hp
        · cases hp; exact hnot ⟨hpg, hpa⟩
        next hij =>
          have hthere := (h.lookup _ _ j hraddr).mpr ⟨p, hp, hpg, hpa⟩
          exact hij (Option.some.inj (hself.symm.trans hthere))
      · rw [if_neg hold, h.lookup g' b j hb]
        have hnotOld : ¬(r.segment = g' ∧ r.address = b) := mt (locationKey_inj hraddr hb).mpr hold
        by_cases hij : i = j
        · subst hij
          rw [if_pos rfl, hr]
          refine iff_of_false ?_ ?_
          · rintro ⟨p, hp, hpg, hpa⟩; cases hp; exact hnotOld ⟨hpg, hpa⟩
          · rintro ⟨p, hp, hpg, hpa⟩; cases hp; exact hnot ⟨hpg, hpa⟩
        · rw [if_neg hij]

theorem registerLaws_amendClass {c : Nat} (hcls : c < 16) (hne : c ≠ r.cls)
    (hdefined : (s.classAt c).figures.isSome = true) : (s.amendClass i r (some c)).RegisterLaws := by
  have hreads (j : Nat) : (s.amendClass i r (some c)).record? j
      = if i = j then some { r with cls := c } else s.record? j := State.setRecord_record? ..
  have w := State.relinks_replace h.neighbours hr hreads rfl
  obtain ⟨hneighbours, hdarkness, hholds⟩ := neighbourLaws_replace h hr hreads rfl rfl rfl
  have hcount {p : Record → Bool} (hp : p { r with cls := c } = p r) :
      (s.amendClass i r (some c)).countRecords p = s.countRecords p := State.countRecords_replace hc hr rfl hp
  have hclassAt := s.amendClass_classAt i r hne
  have hfigures (d : Nat) : ((s.amendClass i r (some c)).classAt d).figures = (s.classAt d).figures := by
    rw [hclassAt]
    split
    next hd => rw [hd]
    · split
      next hd => rw [hd]
      · rfl
  refine
    { names := fun j p hp => ?names
      zoneCounts := zoneCounts_of_counts (s := s) rfl (fun _ => hcount rfl) (fun _ => hcount rfl) h.zoneCounts
      classUsers := fun d => ?classUsers, lookup := lookupLaw_relink w h.lookup hr rfl rfl rfl
      neighbours := hneighbours, darkness := hdarkness, holds := hholds }
  case names =>
    rw [hfigures]
    rw [hreads] at hp
    split at hp
    next hij =>
      cases hp; subst hij
      obtain ⟨hi, hseg, haddr, hzone, -, -, hdef⟩ := h.names i r hr
      exact ⟨hi, hseg, haddr, hzone, hcls, hdefined, hdef⟩
    · exact h.names j p hp
  case classUsers =>
    have hcountd := s.countRecords_setRecord (fun r => r.cls == d) hc hr { r with cls := c }
    have hsame : (s.amendClass i r (some c)).countRecords (fun r => r.cls == d)
        = (s.setRecord i { r with cls := c }).countRecords fun r => r.cls == d := State.countRecords_congr rfl _
    have hle := State.counted_le_countRecords (fun r => r.cls == d) hr
    simp only [Record.counted] at hcountd hle
    have hu := h.classUsers d
    rw [hsame, hclassAt]
    by_cases hdc : d = c
    · subst hdc
      rw [if_pos rfl]
      simp only [beq_self_eq_true, if_true, beq_eq_false_iff_ne.mpr (Ne.symm hne), Bool.false_eq_true, if_false]
        at hcountd
      show (s.classAt d).users + 1 = _
      omega
    · rw [if_neg hdc]
      by_cases hdr : d = r.cls
      · subst hdr
        rw [if_pos rfl]
        simp only [beq_self_eq_true, if_true, beq_eq_false_iff_ne.mpr hne, Bool.false_eq_true, if_false]
          at hcountd hle
        show (s.classAt r.cls).users - 1 = _
        omega
      · rw [if_neg hdr, hu]
        simp only [beq_eq_false_iff_ne.mpr (Ne.symm hdc), beq_eq_false_iff_ne.mpr (Ne.symm hdr), Bool.false_eq_true,
          if_false] at hcountd
        omega

theorem registerLaws_amendZone {z : Nat} (hz : z < 256) (hne : z ≠ r.zone)
    (hdefined : (s.zoneAt z).isDefined = true) : (s.amendZone i r (some z)).RegisterLaws := by
  have hreads (j : Nat) : (s.amendZone i r (some z)).record? j
      = if i = j then some { r with zone := z } else s.record? j := State.setRecord_record? ..
  have w := State.relinks_replace h.neighbours hr hreads rfl
  obtain ⟨hneighbours, hdarkness, hholds⟩ := neighbourLaws_replace h hr hreads rfl rfl rfl
  have hcount {p : Record → Bool} (hp : p { r with zone := z } = p r) :
      (s.amendZone i r (some z)).countRecords p = s.countRecords p := State.countRecords_replace hc hr rfl hp
  have hzoneAt := s.amendZone_zoneAt i r hne
  have hdefinedAt (y : Nat) : ((s.amendZone i r (some z)).zoneAt y).isDefined = (s.zoneAt y).isDefined := by
    rw [hzoneAt]
    split
    next hy => rw [hy]; rfl
    · split
      next hy => rw [hy]; rfl
      · rfl
  refine
    { names := fun j p hp => ?names, zoneCounts := fun y => ?zoneCounts
      classUsers := classUsers_of_counts (s := s) rfl (fun _ => hcount rfl) h.classUsers
      lookup := lookupLaw_relink w h.lookup hr rfl rfl rfl
      neighbours := hneighbours, darkness := hdarkness, holds := hholds }
  case names =>
    rw [hdefinedAt]
    rw [hreads] at hp
    split at hp
    next hij =>
      cases hp; subst hij
      obtain ⟨hi, hseg, haddr, -, hcls, hfig, -⟩ := h.names i r hr
      exact ⟨hi, hseg, haddr, hz, hcls, hfig, hdefined⟩
    · exact h.names j p hp
  case zoneCounts =>
    have hpop := s.countRecords_setRecord (fun r => r.zone == y) hc hr { r with zone := z }
    have hunc := s.countRecords_setRecord (fun r => r.zone == y && r.state.uncovered) hc hr { r with zone := z }
    have hsame (p : Record → Bool) : (s.amendZone i r (some z)).countRecords p
        = (s.setRecord i { r with zone := z }).countRecords p := State.countRecords_congr rfl _
    have hpople := State.counted_le_countRecords (fun r => r.zone == y) hr
    have huncle := State.counted_le_countRecords (fun r => r.zone == y && r.state.uncovered) hr
    obtain ⟨hzp, hzu⟩ := h.zoneCounts y
    simp only [Record.counted] at hpop hunc hpople huncle
    rw [hsame, hsame, hzoneAt]
    by_cases hyz : y = z
    · subst hyz
      simp only [beq_self_eq_true, Bool.true_and, if_true, beq_eq_false_iff_ne.mpr (Ne.symm hne), Bool.false_and,
        Bool.false_eq_true, if_false, RecordState.uncoveredCount_toNat] at hpop hunc
      rw [if_pos rfl]
      simp only [Zone.join, hzp, hzu]
      exact ⟨by omega, by omega⟩
    · rw [if_neg hyz]
      by_cases hyr : y = r.zone
      · subst hyr
        simp only [beq_self_eq_true, Bool.true_and, if_true, beq_eq_false_iff_ne.mpr hne, Bool.false_and,
          Bool.false_eq_true, if_false, RecordState.uncoveredCount_toNat] at hpop hunc hpople huncle
        rw [if_pos rfl]
        simp only [Zone.leave, hzp, hzu]
        exact ⟨by omega, by omega⟩
      · simp only [beq_eq_false_iff_ne.mpr (Ne.symm hyz), beq_eq_false_iff_ne.mpr (Ne.symm hyr), Bool.false_and,
          Bool.false_eq_true, if_false] at hpop hunc
        rw [if_neg hyr, hzp, hzu]
        exact ⟨by omega, by omega⟩

end

/-! ### The change of NEIGHBOURS (R23) -/

section
variable {s : State} {i : Nat} {r : Record} {l : List Nat}

theorem mem_added {a b : List Nat} {n : Nat} : n ∈ added a b ↔ n ∈ b ∧ n ∉ a := by simp [added]

theorem State.amendNeighbours_frame (s : State) (i : Nat) (r : Record) (o : Option (List Nat)) :
    s.amendNeighbours i r o = { s with luminaires := (s.amendNeighbours i r o).luminaires } := by
  unfold State.amendNeighbours
  split
  · rw [State.linkAll_frame, State.unlinkAll_frame]; rfl
  · rfl

/-- What a change of NEIGHBOURS leaves in every slot: the record itself its new list, a neighbour dropped without the
index, a neighbour gained with it. -/
theorem State.amendNeighbours_record? (hfit : s.ListFits i l) (hself : i ∉ r.neighbours) (j : Nat) :
    (s.amendNeighbours i r (some l)).record? j
      = if i = j then some { r with neighbours := l }
        else if j ∈ l ∧ j ∉ r.neighbours then (s.record? j).map fun q => { q with neighbours := q.neighbours ++ [i] }
        else if j ∈ r.neighbours ∧ j ∉ l then
          (s.record? j).map fun q => { q with neighbours := q.neighbours.filter fun m => m != i }
        else s.record? j := by
  have hnew : (added r.neighbours l).Nodup := hfit.nodup.filter _
  show (((s.setRecord i { r with neighbours := l }).unlinkAll i (added l r.neighbours)).linkAll i
    (added r.neighbours l)).record? j = _
  rw [State.linkAll_record? _ i hnew, State.unlinkAll_record?, State.setRecord_record?]
  simp only [mem_added]
  by_cases hij : i = j
  · subst hij; simp [hself, hfit.other]
  · simp only [if_neg hij]
    by_cases hgain : j ∈ l ∧ j ∉ r.neighbours
    · rw [if_pos hgain, if_neg (by tauto), if_pos hgain]
    · rw [if_neg hgain, if_neg hgain]

theorem State.relinks_amendNeighbours (h : s.NeighbourLaw) (hr : s.record? i = some r) (hfit : s.ListFits i l)
    (hroom : s.HasRoom (added r.neighbours l)) :
    s.Relinks (s.amendNeighbours i r (some l)) i { r with neighbours := l } := by
  obtain ⟨-, -, hself, hsymm⟩ := h i r hr
  have hreads := State.amendNeighbours_record? (r := r) hfit hself
  -- A record names the amended one exactly where the amended one named it.
  have hnamed {j : Nat} {p : Record} (hp : s.record? j = some p) : i ∈ p.neighbours ↔ j ∈ r.neighbours := by
    constructor
    · intro hi
      obtain ⟨-, -, -, hback⟩ := h j p hp
      obtain ⟨r', hr', hjr⟩ := hback i hi
      cases hr.symm.trans hr'
      exact hjr
    · intro hj
      obtain ⟨p', hp', hip⟩ := hsymm j hj
      cases hp.symm.trans hp'
      exact hip
  refine ⟨by rw [hreads, if_pos rfl], fun j p hj hp => ?source, fun j p hj hp => ?target⟩
  case source =>
    rw [hreads, if_neg (Ne.symm hj)] at hp
    split at hp
    next hgain =>
      obtain ⟨hjl, hjr⟩ := hgain
      obtain ⟨p', hp', rfl⟩ := Option.map_eq_some_iff.mp hp
      have hnot : i ∉ p'.neighbours := mt (hnamed hp').mp hjr
      obtain ⟨hnodup, -⟩ := h j p' hp'
      have hlt := hroom j (mem_added.mpr ⟨hjl, hjr⟩) p' hp'
      refine ⟨p', hp', rfl, List.nodup_append_single hnodup hnot, ?_, fun m => ?_⟩
      · simp only [List.length_append, List.length_singleton]; omega
      · simp only [List.mem_append, List.mem_singleton, hjl, and_true]
        constructor
        · rintro (hm | hm)
          · exact .inl ⟨fun he => hnot (he ▸ hm), hm⟩
          · exact .inr hm
        · exact Or.imp_left And.right
    next hgain =>
      split at hp
      next hloss =>
        obtain ⟨hjr, hjl⟩ := hloss
        obtain ⟨p', hp', rfl⟩ := Option.map_eq_some_iff.mp hp
        obtain ⟨hnodup, hlen, -⟩ := h j p' hp'
        refine ⟨p', hp', rfl, hnodup.filter _, (List.length_filter_le _ _).trans hlen, fun m => ?_⟩
        simp only [List.mem_filter, bne_iff_ne, hjl, and_false, or_false]
        exact and_comm
      next hloss =>
        have hsame : j ∈ r.neighbours ↔ j ∈ l := by tauto
        obtain ⟨hnodup, hlen, -⟩ := h j p hp
        refine ⟨p, hp, rfl, hnodup, hlen, fun m => ?_⟩
        by_cases hmi : m = i
        · subst hmi; simp [hnamed hp, hsame]
        · simp [hmi]
  case target =>
    rw [hreads, if_neg (Ne.symm hj), hp]
    split
    · exact ⟨_, rfl⟩
    · split <;> exact ⟨_, rfl⟩

theorem State.countRecords_amendNeighbours {p : Record → Bool} (hp : NotOfNeighbours p)
    (hc : Table.Rising s.luminaires) (hr : s.record? i = some r) :
    (s.amendNeighbours i r (some l)).countRecords p = s.countRecords p := by
  have hrise : Table.Rising (s.setRecord i { r with neighbours := l }).luminaires := Table.rising_store _ _ hc
  obtain ⟨hrise', hcount⟩ := State.unlinkAll_counts hp hrise i (added l r.neighbours)
  rw [← State.countRecords_relink hp hc hr l, ← hcount]
  exact (State.linkAll_counts hp hrise' i (added r.neighbours l)).2

theorem registerLaws_amendNeighbours (hc : Table.Rising s.luminaires) (h : s.RegisterLaws)
    (hr : s.record? i = some r) (hfit : s.ListFits i l) (hroom : s.HasRoom (added r.neighbours l))
    (hdark : r.state.inTest = true →
      ∀ n ∈ added r.neighbours l, ∀ q, s.record? n = some q → q.state.inTest = false) :
    (s.amendNeighbours i r (some l)).RegisterLaws := by
  have w := State.relinks_amendNeighbours h.neighbours hr hfit hroom
  have hframe := s.amendNeighbours_frame i r (some l)
  have hzones : (s.amendNeighbours i r (some l)).zones = s.zones := by rw [hframe]
  have hclasses : (s.amendNeighbours i r (some l)).classes = s.classes := by rw [hframe]
  have hcount {p : Record → Bool} (hp : NotOfNeighbours p) :
      (s.amendNeighbours i r (some l)).countRecords p = s.countRecords p := State.countRecords_amendNeighbours hp hc hr
  refine
    { names := fun j p hp => ?names
      zoneCounts := zoneCounts_of_counts hzones (fun _ => hcount fun _ _ => rfl) (fun _ => hcount fun _ _ => rfl)
        h.zoneCounts
      classUsers := classUsers_of_counts hclasses (fun _ => hcount fun _ _ => rfl) h.classUsers
      lookup := lookupLaw_relink w h.lookup hr rfl rfl (by rw [hframe])
      neighbours := neighbourLaw_relink w h.neighbours hfit
      darkness := darknessLaw_relink w h.darkness hfit fun hin n hn p hp => ?darkness
      holds := holdLaw_relink w h.holds hr rfl rfl }
  case names =>
    rw [State.zoneAt_congr hzones, State.classAt_congr hclasses]
    rcases w.cases hp with ⟨rfl, rfl⟩ | ⟨-, p', hp', he⟩
    · exact h.names j r hr
    · rw [he]; exact h.names j p' hp'
  case darkness =>
    by_cases hnr : n ∈ r.neighbours
    · exact Bool.not_eq_true _ |>.mp fun hpt => h.darkness i r n p hr hp hnr ⟨hin, hpt⟩
    · exact hdark hin n (mem_added.mpr ⟨hn, hnr⟩) p hp

end

end Sys2Proof.Machine

end

section
/-! PROOF. AMEND as a whole (R20 to R23), and what an operation of the register alone owes to the laws of the rest of
the part. -/

namespace Sys2Proof.Machine

/-! ### The amended record -/

/-- The record at its new location, if it has one (R21). -/
def Record.relocated (r : Record) : Option (Nat × Nat) → Record
  | some (g, a) => { r with segment := g, address := a }
  | none => r

/-- The record in its new class, if it has one (R21). -/
def Record.reclassed (r : Record) : Option Nat → Record
  | some c => { r with cls := c }
  | none => r

/-- The record in its new zone, if it has one (R22). -/
def Record.rezoned (r : Record) : Option Nat → Record
  | some z => { r with zone := z }
  | none => r

/-- The record with its new neighbour list, if it has one (R23). -/
def Record.relinked (r : Record) : Option (List Nat) → Record
  | some l => { r with neighbours := l }
  | none => r

/-- A record without its place: what AMEND and a neighbour's links cannot change. -/
def Record.history (r : Record) : Record :=
  { r with segment := 0, address := 0, zone := 0, cls := 0, neighbours := [] }

/-- Every slot holds a record of the same history, or is FREE in both. -/
def State.SameHistory (s t : State) : Prop :=
  ∀ j, (t.record? j).map Record.history = (s.record? j).map Record.history

theorem State.SameHistory.trans {s t u : State} (h : s.SameHistory t) (k : t.SameHistory u) : s.SameHistory u :=
  fun j => (k j).trans (h j)

theorem State.SameHistory.source {s t : State} (h : s.SameHistory t) {j : Nat} {q : Record}
    (hq : t.record? j = some q) : ∃ p, s.record? j = some p ∧ q.history = p.history := by
  have hj := h j
  rw [hq, Option.map_some] at hj
  obtain ⟨p, hp, he⟩ := Option.map_eq_some_iff.mp hj.symm
  exact ⟨p, hp, he.symm⟩

theorem State.SameHistory.symm {s t : State} (h : s.SameHistory t) : t.SameHistory s := fun j => (h j).symm

theorem Record.state_of_history {p q : Record} (h : q.history = p.history) : q.state = p.state :=
  (congrArg Record.state h : q.history.state = p.history.state)

theorem Record.inRange_of_history {p q : Record} (h : q.history = p.history) (hp : p.InRange) : q.InRange := by
  have hq : q.history.InRange := h ▸ hp
  exact hq

section
variable {s : State} {i : Nat} {r : Record}

theorem State.amendLocation_record? (hr : s.record? i = some r) (o : Option (Nat × Nat)) (j : Nat) :
    (s.amendLocation i r o).record? j = if i = j then some (r.relocated o) else s.record? j := by
  cases o with
  | some v => exact State.setRecord_record? ..
  | none =>
    show s.record? j = _
    split
    next hij => subst hij; exact hr
    · rfl

theorem State.amendClass_record? (hr : s.record? i = some r) (o : Option Nat) (j : Nat) :
    (s.amendClass i r o).record? j = if i = j then some (r.reclassed o) else s.record? j := by
  cases o with
  | some v => exact State.setRecord_record? ..
  | none =>
    show s.record? j = _
    split
    next hij => subst hij; exact hr
    · rfl

theorem State.amendZone_record? (hr : s.record? i = some r) (o : Option Nat) (j : Nat) :
    (s.amendZone i r o).record? j = if i = j then some (r.rezoned o) else s.record? j := by
  cases o with
  | some v => exact State.setRecord_record? ..
  | none =>
    show s.record? j = _
    split
    next hij => subst hij; exact hr
    · rfl

/-- The record between the changes: at its new location, then in its new class, then in its new zone. -/
def Record.placed (r : Record) (ch : Changes) : Record := ((r.relocated ch.location).reclassed ch.cls).rezoned ch.zone

/-- The state before the change of NEIGHBOURS. -/
def State.placeChanges (s : State) (i : Nat) (r : Record) (ch : Changes) : State :=
  ((s.amendLocation i r ch.location).amendClass i (r.relocated ch.location) ch.cls).amendZone i
    ((r.relocated ch.location).reclassed ch.cls) ch.zone

theorem State.placeChanges_record? (hr : s.record? i = some r) (ch : Changes) (j : Nat) :
    (s.placeChanges i r ch).record? j = if i = j then some (r.placed ch) else s.record? j := by
  have h1 := State.amendLocation_record? hr ch.location
  have hr1 := (h1 i).trans (if_pos rfl)
  have h2 := State.amendClass_record? hr1 ch.cls
  have hr2 := (h2 i).trans (if_pos rfl)
  refine (State.amendZone_record? hr2 ch.zone j).trans ?_
  rw [h2, h1]
  by_cases hij : i = j
  · rw [if_pos hij, if_pos hij]; rfl
  · simp only [if_neg hij]

theorem State.listFits_placeChanges (hr : s.record? i = some r) (ch : Changes) {l : List Nat} (hfit : s.ListFits i l) :
    (s.placeChanges i r ch).ListFits i l where
  short := hfit.short
  enrolled n hn := by
    have hin : i ≠ n := fun he => hfit.other (by rwa [he])
    rw [State.placeChanges_record? hr, if_neg hin]
    exact hfit.enrolled n hn
  other := hfit.other
  nodup := hfit.nodup

theorem State.applyChanges_eq (hr : s.record? i = some r) (ch : Changes) :
    s.applyChanges i r ch = (s.placeChanges i r ch).amendNeighbours i (r.placed ch) ch.neighbours := by
  have h1 := (State.amendLocation_record? hr ch.location i).trans (if_pos rfl)
  have h2 := (State.amendClass_record? h1 ch.cls i).trans (if_pos rfl)
  have h3 := (State.amendZone_record? h2 ch.zone i).trans (if_pos rfl)
  have hcurrent {t : State} {q : Record} (hq : t.record? i = some q) (p : Record) : t.current i p = q := by
    rw [State.current, hq, Option.getD_some]
  unfold State.applyChanges
  simp only [hcurrent h1, hcurrent h2, hcurrent h3]
  rfl

theorem State.amendLocation_frame (s : State) (i : Nat) (r : Record) (o : Option (Nat × Nat)) :
    s.amendLocation i r o
      = { s with luminaires := (s.amendLocation i r o).luminaires, lookup := (s.amendLocation i r o).lookup } := by
  unfold State.amendLocation; split <;> rfl

theorem State.amendClass_frame (s : State) (i : Nat) (r : Record) (o : Option Nat) :
    s.amendClass i r o
      = { s with luminaires := (s.amendClass i r o).luminaires, classes := (s.amendClass i r o).classes } := by
  unfold State.amendClass; split <;> rfl

theorem State.amendZone_frame (s : State) (i : Nat) (r : Record) (o : Option Nat) :
    s.amendZone i r o
      = { s with luminaires := (s.amendZone i r o).luminaires, zones := (s.amendZone i r o).zones } := by
  unfold State.amendZone; split <;> rfl

theorem State.applyChanges_frame (s : State) (i : Nat) (r : Record) (ch : Changes) :
    s.applyChanges i r ch
      = { s with
          luminaires := (s.applyChanges i r ch).luminaires
          zones := (s.applyChanges i r ch).zones
          classes := (s.applyChanges i r ch).classes
          lookup := (s.applyChanges i r ch).lookup } := by
  unfold State.applyChanges
  simp only
  rw [State.amendNeighbours_frame, State.amendZone_frame, State.amendClass_frame, State.amendLocation_frame]

theorem State.amendLocation_settings (s : State) (i : Nat) (r : Record) (o : Option (Nat × Nat)) :
    s.SameSettings (s.amendLocation i r o) := by
  rw [State.amendLocation_frame]; exact .of_eq rfl rfl

theorem State.amendClass_settings (s : State) (i : Nat) (r : Record) (o : Option Nat) :
    s.SameSettings (s.amendClass i r o) := by
  unfold State.amendClass
  split
  · exact (State.leaveClass_settings _ _).trans (State.joinClass_settings _ _)
  · exact .refl s

theorem State.amendZone_settings (s : State) (i : Nat) (r : Record) (o : Option Nat) :
    s.SameSettings (s.amendZone i r o) := by
  unfold State.amendZone
  split
  · exact (State.leaveZone_settings _ _ _).trans (State.joinZone_settings _ _ _)
  · exact .refl s

theorem State.amendNeighbours_settings (s : State) (i : Nat) (r : Record) (o : Option (List Nat)) :
    s.SameSettings (s.amendNeighbours i r o) := by
  rw [State.amendNeighbours_frame]; exact .of_eq rfl rfl

theorem State.placeChanges_settings (s : State) (i : Nat) (r : Record) (ch : Changes) :
    s.SameSettings (s.placeChanges i r ch) :=
  ((s.amendLocation_settings ..).trans (State.amendClass_settings ..)).trans (State.amendZone_settings ..)

theorem State.applyChanges_settings (hr : s.record? i = some r) (ch : Changes) :
    s.SameSettings (s.applyChanges i r ch) := by
  rw [State.applyChanges_eq hr]
  exact (s.placeChanges_settings i r ch).trans (State.amendNeighbours_settings ..)

theorem Record.placed_history (r : Record) (ch : Changes) : (r.placed ch).history = r.history := by
  obtain ⟨location, zone, cls, -⟩ := ch
  cases location <;> cases zone <;> cases cls <;> rfl

theorem Record.placed_neighbours (r : Record) (ch : Changes) : (r.placed ch).neighbours = r.neighbours := by
  obtain ⟨location, zone, cls, -⟩ := ch
  cases location <;> cases zone <;> cases cls <;> rfl

theorem Record.placed_state (r : Record) (ch : Changes) : (r.placed ch).state = r.state :=
  Record.state_of_history (r.placed_history ch)

theorem Record.placed_segment {r : Record} {ch : Changes} (h : ch.location = none) :
    (r.placed ch).segment = r.segment := by
  obtain ⟨location, zone, cls, _⟩ := ch
  simp only at h
  subst h
  cases zone <;> cases cls <;> rfl

end

/-! ### The register's laws through an AMEND -/

section
variable {s : State} {i : Nat} {r : Record} {ch : Changes}

theorem registerLaws_placeChanges (hc : s.Canonical) (h : s.RegisterLaws) (e : s.Amendable i r ch) :
    (s.placeChanges i r ch).RegisterLaws := by
  have hr1 := (State.amendLocation_record? e.enrolled ch.location i).trans (if_pos rfl)
  have hr2 := (State.amendClass_record? hr1 ch.cls i).trans (if_pos rfl)
  have hc1 := canonical_amendLocation hc i r ch.location
  have hc2 := canonical_amendClass hc1 i (r.relocated ch.location) ch.cls
  have h1 : (s.amendLocation i r ch.location).RegisterLaws := by
    cases hl : ch.location with
    | none => exact h
    | some v =>
      obtain ⟨g, a⟩ := v
      obtain ⟨hg, ha, hfree⟩ := e.location g a hl
      exact registerLaws_amendLocation hc.1 h e.enrolled hg ha hfree
  have h2 : ((s.amendLocation i r ch.location).amendClass i (r.relocated ch.location) ch.cls).RegisterLaws := by
    cases hl : ch.cls with
    | none => exact h1
    | some c =>
      obtain ⟨hlt, hne, hdefined⟩ := e.cls c hl
      refine registerLaws_amendClass hc1.1 h1 hr1 hlt ?_ ?_
      · cases ch.location <;> exact hne
      · rw [(s.amendLocation_settings i r ch.location).2]; exact hdefined
  unfold State.placeChanges
  cases hl : ch.zone with
  | none => exact h2
  | some z =>
    obtain ⟨hlt, hne, hdefined⟩ := e.zone z hl
    refine registerLaws_amendZone hc2.1 h2 hr2 hlt ?_ ?_
    · cases ch.location <;> cases ch.cls <;> exact hne
    · rw [((State.amendLocation_settings ..).trans (State.amendClass_settings ..)).1 z |>.1]; exact hdefined

theorem registerLaws_applyChanges (hc : s.Canonical) (h : s.RegisterLaws) (e : s.Amendable i r ch) :
    (s.applyChanges i r ch).RegisterLaws := by
  have hplace := registerLaws_placeChanges hc h e
  have hreads := State.placeChanges_record? e.enrolled ch
  have hri := (hreads i).trans (if_pos rfl)
  have hrise : Table.Rising (s.placeChanges i r ch).luminaires :=
    (canonical_amendZone (canonical_amendClass (canonical_amendLocation hc _ _ _) _ _ _) _ _ _).1
  rw [State.applyChanges_eq e.enrolled]
  cases hl : ch.neighbours with
  | none => exact hplace
  | some l =>
    have hfit := e.list l hl
    have hother {n : Nat} (hn : n ∈ l) : (s.placeChanges i r ch).record? n = s.record? n := by
      have hin : i ≠ n := fun he => hfit.other (by rwa [he])
      rw [hreads, if_neg hin]
    have hin {n : Nat} (hn : n ∈ added r.neighbours l) : n ∈ l := (mem_added.mp hn).1
    refine registerLaws_amendNeighbours hrise hplace hri (State.listFits_placeChanges e.enrolled ch hfit) ?room ?dark
    case room =>
      rw [Record.placed_neighbours]
      intro n hn
      rw [hother (hin hn)]
      exact e.room l hl n hn
    case dark =>
      rw [Record.placed_neighbours, Record.placed_state]
      intro ht n hn
      rw [hother (hin hn)]
      exact e.dark l hl ht n hn

/-- AMEND leaves every record its history. -/
theorem State.applyChanges_history (h : s.NeighbourLaw) (e : s.Amendable i r ch) :
    s.SameHistory (s.applyChanges i r ch) := by
  have hreads := State.placeChanges_record? e.enrolled ch
  have hplace : s.SameHistory (s.placeChanges i r ch) := fun j => by
    rw [hreads]
    split
    next hij => subst hij; rw [e.enrolled, Option.map_some, Option.map_some, Record.placed_history]
    · rfl
  refine hplace.trans fun j => ?_
  rw [State.applyChanges_eq e.enrolled]
  cases hl : ch.neighbours with
  | none => rfl
  | some l =>
    have hfit := e.list l hl
    obtain ⟨-, -, hself, -⟩ := h i r e.enrolled
    have hfit' := State.listFits_placeChanges e.enrolled ch hfit
    rw [State.amendNeighbours_record? hfit' (by rw [Record.placed_neighbours]; exact hself)]
    split
    next hij => subst hij; rw [hreads, if_pos rfl]; rfl
    · split
      · rw [Option.map_map]; rfl
      · split
        · rw [Option.map_map]; rfl
        · rfl

/-- Only the amended record can change its segment, and that only with its location. -/
theorem State.applyChanges_segment (h : s.NeighbourLaw) (e : s.Amendable i r ch) {j : Nat}
    (hj : j = i → ch.location = none) :
    ((s.applyChanges i r ch).record? j).map (·.segment) = (s.record? j).map (·.segment) := by
  have hreads := State.placeChanges_record? e.enrolled ch
  have hplace : ((s.placeChanges i r ch).record? j).map (·.segment) = (s.record? j).map (·.segment) := by
    rw [hreads]
    split
    next hij => subst hij; rw [e.enrolled, Option.map_some, Option.map_some, Record.placed_segment (hj rfl)]
    · rfl
  refine Eq.trans ?_ hplace
  rw [State.applyChanges_eq e.enrolled]
  cases hl : ch.neighbours with
  | none => rfl
  | some l =>
    have hfit := e.list l hl
    obtain ⟨-, -, hself, -⟩ := h i r e.enrolled
    have hfit' := State.listFits_placeChanges e.enrolled ch hfit
    rw [State.amendNeighbours_record? hfit' (by rw [Record.placed_neighbours]; exact hself)]
    split
    next hij => subst hij; rw [hreads, if_pos rfl]; rfl
    · split
      · rw [Option.map_map]; rfl
      · split
        · rw [Option.map_map]; rfl
        · rfl

end

/-! ### Operations of the register alone -/

section
variable {s t : State}

theorem State.figures_settings (h : s.SameSettings t) (c : Nat) : t.figures c = s.figures c := by
  rw [State.figures, State.figures, ClassEntry.read, ClassEntry.read, h.2]

/-- The ranges of the class table: the users are counted, the figures stand. -/
theorem classes_inRange (hset : s.SameSettings t) (hrise : Table.Rising t.luminaires) (hnames : t.NamesLaw)
    (husers : t.ClassUsers) (h : ∀ c, (s.classAt c).InRange) (c : Nat) : (t.classAt c).InRange := by
  refine ⟨husers c ▸ State.countRecords_le _ hrise hnames, ?_⟩
  rw [hset.2]
  exact (h c).2

/-- The ranges of the zone table: population and uncovered are counted, the settings stand. -/
theorem zones_inRange (hset : s.SameSettings t) (hrise : Table.Rising t.luminaires) (hnames : t.NamesLaw)
    (hcounts : t.ZoneCounts) (h : ∀ z, (s.zoneAt z).InRange) (z : Nat) : (t.zoneAt z).InRange := by
  obtain ⟨-, hprofile, hpercent, -⟩ := hset.1 z
  obtain ⟨hpop, hunc⟩ := hcounts z
  obtain ⟨hp, hlo, hhi, -⟩ := h z
  refine ⟨hprofile ▸ hp, hpercent ▸ hlo, hpercent ▸ hhi, hpop ▸ State.countRecords_le _ hrise hnames, ?_⟩
  rw [hpop, hunc]
  exact State.countRecords_mono fun r hr => (Bool.and_eq_true_iff.mp hr).1

/-- Bindings through a change of records: those under test stay under test, in their place. -/
theorem bindingLaw_records (hchannels : t.channels = s.channels) (hsegments : t.segments = s.segments)
    (hto : ∀ j p, s.record? j = some p → p.state.inTest = true →
      ∃ q, t.record? j = some q ∧ q.state.inTest = true ∧ q.segment = p.segment)
    (hfrom : ∀ j q, t.record? j = some q → q.state.inTest = true → ∃ p, s.record? j = some p ∧ p.state.inTest = true)
    (h : s.BindingLaw) : t.BindingLaw := by
  obtain ⟨hexist, hbound, hone, htest, hactive⟩ := h
  have hat (k : Nat) : t.channelAt k = s.channelAt k := State.channelAt_congr hchannels k
  have hb (k : Nat) : t.bound k = s.bound k := by rw [State.bound, State.bound, hat]
  refine ⟨fun k hk => (hat k).trans (hexist k hk), fun k hk => ?_, fun k j => ?_, fun i r hr hin => ?_, fun g => ?_⟩
  · obtain ⟨p, hp, hin⟩ := hbound k (hb k ▸ hk)
    obtain ⟨q, hq, hqin, -⟩ := hto _ p hp hin
    exact ⟨q, hat k ▸ hq, hqin⟩
  · rw [hb, hb, hat, hat]; exact hone k j
  · obtain ⟨p, hp, hpin⟩ := hfrom i r hr hin
    obtain ⟨k, hk, hki⟩ := htest i p hp hpin
    exact ⟨k, (hb k).trans hk, by rw [hat]; exact hki⟩
  · rw [State.segmentAt_congr hsegments, hactive g]
    congr 1
    refine List.filter_congr fun k _ => ?_
    rw [hb]
    cases hk : s.bound k with
    | false => rfl
    | true =>
      obtain ⟨p, hp, hin⟩ := hbound k hk
      obtain ⟨q, hq, -, hseg⟩ := hto _ p hp hin
      simp only [State.onSegment, hat, hp, hq, hseg]

/-- An operation that touches only the register's tables owes the laws of the register, the settings of zones and
classes, the bindings of the records under test, and the ranges of the records. -/
theorem lawful_of_register (h : s.Lawful)
    (hframe : t
      = { s with
          luminaires := t.luminaires, zones := t.zones, classes := t.classes, lookup := t.lookup })
    (hcan : t.Canonical) (hreg : t.RegisterLaws) (hset : s.SameSettings t)
    (hto : ∀ j p, s.record? j = some p → p.state.inTest = true →
      ∃ q, t.record? j = some q ∧ q.state.inTest = true ∧ q.segment = p.segment)
    (hfrom : ∀ j q, t.record? j = some q → q.state.inTest = true → ∃ p, s.record? j = some p ∧ p.state.inTest = true)
    (hrange : ∀ j q, t.record? j = some q → q.InRange) : t.Lawful := by
  have hseg : t.segments = s.segments := by rw [hframe]
  have hchan : t.channels = s.channels := by rw [hframe]
  have hlink : t.link = s.link := by rw [hframe]
  have hplan : t.planner = s.planner := by rw [hframe]
  have hclock : t.clock = s.clock := by rw [hframe]
  have hatt : t.attention = s.attention := by rw [hframe]
  have hprog : t.programme = s.programme := by rw [hframe]
  have hport : t.port = s.port := by rw [hframe]
  have hexc : t.exceptions = s.exceptions := by rw [hframe]
  have htime : t.answerTime = s.answerTime := by rw [hframe]
  have w := h.ranges
  obtain ⟨hexist, hlawful, -⟩ := h.timers
  exact
    { canonical := hcan
      register := hreg
      exceptions := exceptionLaw_congr hexc hclock h.exceptions
      binding := bindingLaw_records hchan hseg hto hfrom h.binding
      timers :=
        ⟨fun k hk => (State.channelAt_congr hchan k).trans (hexist k hk),
          fun k => by rw [State.channelAt_congr hchan]; exact hlawful k,
          fun c => by rw [State.figures_settings hset]; exact h.timers.2.2 c⟩
      queue := queueLaw_congr hchan (by rw [hlink]) h.queue
      candidates := candidateLaw_congr hplan h.candidates
      programme := programmeLaw_congr hprog hchan (by rw [hclock]) (by rw [hlink]) h.programme
      mains := mainsLaw_congr hseg h.mains
      attention := attentionLaw_congr hatt (by rw [hplan]) h.attention
      port := portLaw_congr hport h.port
      ranges :=
        { clock := by rw [hclock]; exact w.clock
          timing := by rw [htime]; exact w.timing
          threshold := by rw [hlink]; exact w.threshold
          turnaround := by rw [hport]; exact w.turnaround
          queues := by rw [hlink]; exact w.queues
          orders := by rw [hlink]; exact w.orders
          causes := fun c => by rw [State.causeAt_congr hatt]; exact w.causes c
          classes := classes_inRange hset hcan.1 hreg.names hreg.classUsers w.classes
          zones := zones_inRange hset hcan.1 hreg.names hreg.zoneCounts w.zones
          segments := fun g => by rw [State.segmentAt_congr hseg]; exact w.segments g
          channels := fun k => by rw [State.channelAt_congr hchan]; exact w.channels k
          records := hrange
          exceptions := by rw [hexc]; exact w.exceptions
          planner := by rw [hplan]; exact w.planner
          resumeMinute := by rw [hprog]; exact w.resumeMinute } }

end

end Sys2Proof.Machine

end

section
/-! PROOF. The laws of the whole part (State.Lawful) through the register's operations and through a write of one field
of the state. -/

namespace Sys2Proof.Machine

/-! ### Records -/

section
variable {s : State} {i : Nat} {r q : Record}

/-- A record written without changing its place, state or hold. -/
theorem lawful_setRecord (h : s.Lawful) (hr : s.record? i = some r) (hp : r.SamePlace q) (hstate : q.state = r.state)
    (hhold : q.hold = r.hold) (hrange : q.InRange) : (s.setRecord i q).Lawful := by
  have w := State.Rewrites.setRecord hr hp
  refine lawful_of_register h rfl (canonical_setRecord h.canonical i q)
    (registerLaws_setRecord h.canonical.1 h.register hr hp hstate hhold) (.of_eq rfl rfl) (fun j p hp hin => ?_)
    (fun j p hp hin => ?_) fun j p hp => ?_
  · rw [w.reads]
    split
    next hij =>
      subst hij
      cases hr.symm.trans hp
      exact ⟨q, rfl, hstate ▸ hin, w.place.segment⟩
    · exact ⟨p, hp, hin, rfl⟩
  · obtain ⟨p', hp', -, ⟨-, rfl, rfl⟩ | ⟨-, rfl⟩⟩ := w.source hp
    · exact ⟨_, hp', hstate ▸ hin⟩
    · exact ⟨_, hp', hin⟩
  · obtain ⟨p', hp', -, ⟨-, rfl, rfl⟩ | ⟨-, rfl⟩⟩ := w.source hp
    · exact hrange
    · exact h.ranges.records j _ hp'

/-- A transition into a test or out of one is a channel's; any other leaves the bindings. -/
theorem lawful_transition (h : s.Lawful) (hr : s.record? i = some r) (hp : r.SamePlace q)
    (hsame : q.state.inTest = r.state.inTest) (hhold : q.HoldFits) (hrange : q.InRange) :
    (s.transition i r q).Lawful := by
  have w := State.Rewrites.transition hr hp
  refine lawful_of_register h rfl (canonical_transition h.canonical i r q)
    (registerLaws_transition h.canonical.1 h.register hr hp (fun hin => .inl (hsame ▸ hin)) hhold)
    (s.transition_settings i r q) (fun j p hp hin => ?_) (fun j p hp hin => ?_) fun j p hp => ?_
  · rw [w.reads]
    split
    next hij =>
      subst hij
      cases hr.symm.trans hp
      exact ⟨q, rfl, hsame ▸ hin, w.place.segment⟩
    · exact ⟨p, hp, hin, rfl⟩
  · obtain ⟨p', hp', -, ⟨-, rfl, rfl⟩ | ⟨-, rfl⟩⟩ := w.source hp
    · exact ⟨_, hp', hsame ▸ hin⟩
    · exact ⟨_, hp', hin⟩
  · obtain ⟨p', hp', -, ⟨-, rfl, rfl⟩ | ⟨-, rfl⟩⟩ := w.source hp
    · exact hrange
    · exact h.ranges.records j _ hp'

theorem lawful_freeRecord (h : s.Lawful) (hr : s.record? i = some r) (hrt : r.state.inTest = false) :
    (s.freeRecord i r).Lawful := by
  have hn := h.register.neighbours
  refine lawful_of_register h (s.freeRecord_frame i r) (canonical_freeRecord h.canonical i r)
    (registerLaws_freeRecord h.canonical.1 h.register hr) (s.freeRecord_settings i r) (fun j p hp hin => ?_)
    (fun j p hp hin => ?_) fun j p hp => ?_
  · have hj : j ≠ i := by
      rintro rfl
      cases hr.symm.trans hp
      exact Bool.false_ne_true (hrt.symm.trans hin)
    exact ⟨_, State.freeRecord_target hn hr hj hp, hin, rfl⟩
  · obtain ⟨-, p', hp', rfl⟩ := State.freeRecord_source hn hr hp
    exact ⟨p', hp', hin⟩
  · obtain ⟨-, p', hp', rfl⟩ := State.freeRecord_source hn hr hp
    exact h.ranges.records j p' hp'

theorem lawful_enrolRecord (h : s.Lawful) (e : s.Enrolable i r) (hready : r.state = .ready) (hrange : r.InRange) :
    (s.enrolRecord i r).Lawful := by
  have w := State.relinks_enrolRecord h.register.neighbours e
  refine lawful_of_register h (s.enrolRecord_frame i r) (canonical_enrolRecord h.canonical i r)
    (registerLaws_enrolRecord h.canonical.1 h.register e hready) (s.enrolRecord_settings i r) (fun j p hp hin => ?_)
    (fun j p hp hin => ?_) fun j p hp => ?_
  · have hj : j ≠ i := by
      rintro rfl
      cases e.slotFree.symm.trans hp
    obtain ⟨p', hp'⟩ := w.target j p hj hp
    obtain ⟨p'', hp'', he, -⟩ := w.source j p' hj hp'
    cases hp.symm.trans hp''
    exact ⟨p', hp', by rw [he]; exact hin, by rw [he]⟩
  · rcases w.cases hp with ⟨-, rfl⟩ | ⟨-, p', hp', he⟩
    · rw [hready] at hin; cases hin
    · exact ⟨p', hp', by rw [he] at hin; exact hin⟩
  · rcases w.cases hp with ⟨-, rfl⟩ | ⟨-, p', hp', he⟩
    · exact hrange
    · rw [he]; exact h.ranges.records j p' hp'

theorem lawful_applyChanges {ch : Changes} (h : s.Lawful) (e : s.Amendable i r ch) : (s.applyChanges i r ch).Lawful := by
  have hn := h.register.neighbours
  have hhistory := State.applyChanges_history hn e
  refine lawful_of_register h (s.applyChanges_frame i r ch) (canonical_applyChanges h.canonical i r ch)
    (registerLaws_applyChanges h.canonical h.register e) (State.applyChanges_settings e.enrolled ch)
    (fun j p hp hin => ?_) (fun j p hp hin => ?_) fun j p hp => ?_
  · obtain ⟨q, hq, he⟩ := hhistory.symm.source hp
    have hlocation : j = i → ch.location = none := by
      rintro rfl
      cases e.enrolled.symm.trans hp
      exact (e.inPlace hin).1
    have hsegment := State.applyChanges_segment hn e hlocation
    rw [hq, hp] at hsegment
    exact ⟨q, hq, by rw [← Record.state_of_history he]; exact hin, Option.some.inj hsegment⟩
  · obtain ⟨p', hp', he⟩ := hhistory.source hp
    exact ⟨p', hp', by rw [← Record.state_of_history he]; exact hin⟩
  · obtain ⟨p', hp', he⟩ := hhistory.source hp
    exact Record.inRange_of_history he (h.ranges.records j p' hp')

end

/-! ### The class, zone and segment tables -/

section
variable {s : State}

/-- A class written with its users: its figures in range, or none where no record names it. -/
theorem lawful_setClass (h : s.Lawful) {c : Nat} {e : ClassEntry} (husers : e.users = (s.classAt c).users)
    (hrange : ∀ f ∈ e.figures, f.InRange) (hnamed : e.figures = none → (s.classAt c).users = 0) :
    (s.setClass c e).Lawful := by
  have w := h.ranges
  obtain ⟨hexist, hlawful, hfigures⟩ := h.timers
  have hnames : (s.setClass c e).NamesLaw := fun i r hr => by
    obtain ⟨hi, hseg, haddr, hzone, hcls, hfig, hdef⟩ := h.register.names i r hr
    refine ⟨hi, hseg, haddr, hzone, hcls, ?_, hdef⟩
    rw [State.setClass_classAt]
    split
    next hc =>
      by_contra hnone
      have hzero := hnamed (Option.not_isSome_iff_eq_none.mp hnone)
      have hcount := State.counted_le_countRecords (s := s) (fun r => r.cls == c) hr
      rw [← h.register.classUsers c, hzero] at hcount
      simp [Record.counted, hc] at hcount
    · exact hfig
  have husersLaw : (s.setClass c e).ClassUsers := fun d => by
    rw [State.setClass_classAt]
    split
    next hd => subst hd; rw [husers]; exact h.register.classUsers c
    · exact h.register.classUsers d
  have hentries (d : Nat) : ((s.setClass c e).classAt d).InRange := by
    rw [State.setClass_classAt]
    split
    · exact ⟨husers ▸ (w.classes c).1, hrange⟩
    · exact w.classes d
  exact
    { h with
      canonical := canonical_setClass h.canonical c e
      register :=
        ⟨hnames, h.register.zoneCounts, husersLaw, h.register.lookup, h.register.neighbours, h.register.darkness,
          h.register.holds⟩
      timers := by
        refine ⟨hexist, hlawful, fun d => ?_⟩
        rw [State.figures, State.setClass_classAt]
        split
        · rw [ClassEntry.read]
          cases hf : e.figures with
          | none => exact ⟨Nat.zero_le _, Nat.zero_le _⟩
          | some f =>
            obtain ⟨⟨-, hlen⟩, ⟨-, hrated⟩, -⟩ := hrange f hf
            exact ⟨hrated, hlen⟩
        · exact hfigures d
      ranges := { w with classes := hentries } }

/-- A zone written with its counts: it stays defined, or no record is in it. -/
theorem lawful_setZone (h : s.Lawful) {z : Nat} {e : Zone} (hpop : e.population = (s.zoneAt z).population)
    (hunc : e.uncovered = (s.zoneAt z).uncovered) (hprofile : e.profile ≤ 31)
    (hpercent : 1 ≤ e.percent ∧ e.percent ≤ 100) (hnamed : e.isDefined = true ∨ (s.zoneAt z).population = 0) :
    (s.setZone z e).Lawful := by
  have w := h.ranges
  have hnames : (s.setZone z e).NamesLaw := fun i r hr => by
    obtain ⟨hi, hseg, haddr, hzone, hcls, hfig, hdef⟩ := h.register.names i r hr
    refine ⟨hi, hseg, haddr, hzone, hcls, hfig, ?_⟩
    rw [State.setZone_zoneAt]
    split
    next hz =>
      refine hnamed.resolve_right fun hzero => ?_
      have hcount := State.counted_le_countRecords (s := s) (fun r => r.zone == z) hr
      rw [← (h.register.zoneCounts z).1, hzero] at hcount
      simp [Record.counted, hz] at hcount
    · exact hdef
  have hcounts : (s.setZone z e).ZoneCounts := fun y => by
    rw [State.setZone_zoneAt]
    split
    next hy => subst hy; rw [hpop, hunc]; exact h.register.zoneCounts z
    · exact h.register.zoneCounts y
  have hentries (y : Nat) : ((s.setZone z e).zoneAt y).InRange := by
    rw [State.setZone_zoneAt]
    split
    · obtain ⟨-, -, -, hp, hu⟩ := w.zones z
      exact ⟨hprofile, hpercent.1, hpercent.2, hpop ▸ hp, hpop ▸ hunc ▸ hu⟩
    · exact w.zones y
  exact
    { h with
      canonical := canonical_setZone h.canonical z e
      register :=
        ⟨hnames, hcounts, h.register.classUsers, h.register.lookup, h.register.neighbours, h.register.darkness,
          h.register.holds⟩
      ranges := { w with zones := hentries } }

/-- A segment written with its active count. -/
theorem lawful_setSegment (h : s.Lawful) {g : Nat} {e : Segment} (hactive : e.active = (s.segmentAt g).active)
    (hcap : 1 ≤ e.cap ∧ e.cap ≤ 8) (hmains : e.outageStart.isSome = true ↔ e.mains = .absent)
    (hminute : MinuteInRange e.outageStart) : (s.setSegment g e).Lawful := by
  have w := h.ranges
  obtain ⟨hexist, hbound, hone, htest, hcount⟩ := h.binding
  have hactives (d : Nat) : ((s.setSegment g e).segmentAt d).active = (s.segmentAt d).active := by
    rw [State.setSegment_segmentAt]
    split
    next hd => subst hd; exact hactive
    · rfl
  exact
    { h with
      canonical := canonical_setSegment h.canonical g e
      register :=
        ⟨h.register.names, h.register.zoneCounts, h.register.classUsers, h.register.lookup, h.register.neighbours,
          h.register.darkness, h.register.holds⟩
      binding := ⟨hexist, hbound, hone, htest, fun d => (hactives d).trans (hcount d)⟩
      mains := fun d => by
        rw [State.setSegment_segmentAt]
        split
        · exact hmains
        · exact h.mains d
      ranges :=
        { w with
          segments := fun d => by
            rw [State.setSegment_segmentAt]
            split
            · exact ⟨hcap.1, hcap.2, hactive ▸ (w.segments g).2.2.1, hminute⟩
            · exact w.segments d } }

end

/-! ### The part outside the register and the channels -/

/-- The laws of everything but the tables of the register, the segments and the channels. -/
structure State.OuterLaws (s : State) : Prop where
  exceptions : s.ExceptionLaw
  queue : s.QueueLaw
  candidates : s.CandidateLaw
  programme : s.ProgrammeLaw
  attention : s.AttentionLaw
  port : s.PortLaw
  clock : s.clock.value ≤ 4294967295 ∧ s.clock.seconds ≤ 59
  timing : 10 ≤ s.answerTime ∧ s.answerTime ≤ 600
  threshold : s.link.threshold = 8 ∨ s.link.threshold = 16 ∨ s.link.threshold = 24 ∨ s.link.threshold = 32
  turnaround : s.port.turnaround = 1 ∨ s.port.turnaround = 2 ∨ s.port.turnaround = 4
  queues : s.link.stallCount ≤ 600 ∧ s.link.reports.length ≤ 64
  orders : ∀ o ∈ s.link.dispatch, o.InRange
  causes : ∀ c, (s.causeAt c).level ≤ 7 ∧ (s.causeAt c).carried ≤ 65535
  exceptionRange : ∀ e ∈ s.exceptions, e.InRange
  planner :
    s.planner.cursor ≤ 4096 ∧ s.planner.publishedOverdue ≤ 4096 ∧ (∀ c ∈ s.planner.working, c.InRange)
      ∧ (∀ e ∈ s.planner.published, e.entry.InRange) ∧ s.planner.scope.inRange = true
      ∧ s.planner.passScope.inRange = true
  resumeMinute : MinuteInRange s.programme.resumeMinute

theorem State.Lawful.outer {s : State} (h : s.Lawful) : s.OuterLaws :=
  { exceptions := h.exceptions, queue := h.queue, candidates := h.candidates, programme := h.programme
    attention := h.attention, port := h.port, clock := h.ranges.clock, timing := h.ranges.timing
    threshold := h.ranges.threshold, turnaround := h.ranges.turnaround, queues := h.ranges.queues
    orders := h.ranges.orders, causes := h.ranges.causes, exceptionRange := h.ranges.exceptions
    planner := h.ranges.planner, resumeMinute := h.ranges.resumeMinute }

/-- An operation that leaves the tables of the register, the segments and the channels owes the outer laws alone. -/
theorem lawful_of_outer {s t : State} (h : s.Lawful) (hrecords : t.luminaires = s.luminaires)
    (hzones : t.zones = s.zones) (hclasses : t.classes = s.classes) (hlookup : t.lookup = s.lookup)
    (hsegments : t.segments = s.segments) (hchannels : t.channels = s.channels) (hcan : t.Canonical)
    (o : t.OuterLaws) : t.Lawful :=
  { canonical := hcan
    register := registerLaws_congr hrecords hzones hclasses hlookup h.register
    exceptions := o.exceptions
    binding := bindingLaw_congr hchannels hrecords hsegments h.binding
    timers := timerLaw_congr hchannels hclasses h.timers
    queue := o.queue
    candidates := o.candidates
    programme := o.programme
    mains := mainsLaw_congr hsegments h.mains
    attention := o.attention
    port := o.port
    ranges :=
      { clock := o.clock, timing := o.timing, threshold := o.threshold, turnaround := o.turnaround
        queues := o.queues, orders := o.orders, causes := o.causes, exceptions := o.exceptionRange
        planner := o.planner, resumeMinute := o.resumeMinute
        classes := fun c => by rw [State.classAt_congr hclasses]; exact h.ranges.classes c
        zones := fun z => by rw [State.zoneAt_congr hzones]; exact h.ranges.zones z
        segments := fun g => by rw [State.segmentAt_congr hsegments]; exact h.ranges.segments g
        channels := fun k => by rw [State.channelAt_congr hchannels]; exact h.ranges.channels k
        records := fun i r hr => h.ranges.records i r (by rwa [State.record?_congr hrecords] at hr) } }

section
variable {s : State} (h : s.Lawful)
include h

/-- The profiles, the pending halt set, the words handed over and the waiting commands are in no law but the canonical
form. -/
theorem lawful_unread {t : State}
    (hframe : t = { s with profiles := t.profiles, pendingHalt := t.pendingHalt, line := t.line, pending := t.pending })
    (hcan : t.Canonical) : t.Lawful := by
  rw [hframe] at hcan ⊢
  exact lawful_of_outer h rfl rfl rfl rfl rfl rfl hcan { h.outer with }

/-- The link written: its dispatch queue lawful, its figures in range, and the link as CONFIGURED as before. -/
theorem lawful_setLink {l : Link} (hconfigured : s.link.configured = true → l.configured = true)
    (hqueue : ({ s with link := l } : State).QueueLaw)
    (hthreshold : l.threshold = 8 ∨ l.threshold = 16 ∨ l.threshold = 24 ∨ l.threshold = 32)
    (hqueues : l.stallCount ≤ 600 ∧ l.reports.length ≤ 64) (horders : ∀ o ∈ l.dispatch, o.InRange) :
    ({ s with link := l } : State).Lawful := by
  obtain ⟨hstopped, hhalting, hout, hresume⟩ := h.programme
  exact lawful_of_outer h rfl rfl rfl rfl rfl rfl h.canonical
    { h.outer with
      queue := hqueue, threshold := hthreshold, queues := hqueues, orders := horders
      programme := ⟨hstopped, hhalting, fun hp => (hout hp).imp_right hconfigured, hresume⟩ }

/-- The planner written: its lists lawful, its published overdue count as OVERDUE carries it, its figures in range. -/
theorem lawful_setPlanner {p : Planner} (hlists : ({ s with planner := p } : State).CandidateLaw)
    (hoverdue : p.publishedOverdue = s.planner.publishedOverdue) (hcursor : p.cursor ≤ 4096)
    (hworking : ∀ c ∈ p.working, c.InRange) (hpublished : ∀ e ∈ p.published, e.entry.InRange)
    (hscope : p.scope.inRange = true) (hpass : p.passScope.inRange = true) :
    ({ s with planner := p } : State).Lawful :=
  lawful_of_outer h rfl rfl rfl rfl rfl rfl h.canonical
    { h.outer with
      candidates := hlists
      attention := attentionLaw_congr (s := s) rfl hoverdue h.attention
      planner := ⟨hcursor, hoverdue.trans_le h.ranges.planner.2.1, hworking, hpublished, hscope, hpass⟩ }

theorem lawful_setPort {p : Port} (hport : ({ s with port := p } : State).PortLaw)
    (hturnaround : p.turnaround = 1 ∨ p.turnaround = 2 ∨ p.turnaround = 4) :
    ({ s with port := p } : State).Lawful :=
  lawful_of_outer h rfl rfl rfl rfl rfl rfl h.canonical { h.outer with port := hport, turnaround := hturnaround }

theorem lawful_setProgramme {p : Programme} (hprogramme : ({ s with programme := p } : State).ProgrammeLaw)
    (hresume : MinuteInRange p.resumeMinute) : ({ s with programme := p } : State).Lawful :=
  lawful_of_outer h rfl rfl rfl rfl rfl rfl h.canonical
    { h.outer with programme := hprogramme, resumeMinute := hresume }

/-- The clock and the exceptions written: the clock stays SET once it is. -/
theorem lawful_setClock {c : Clock} {e : List CalendarException}
    (hexceptions : ({ s with clock := c, exceptions := e } : State).ExceptionLaw)
    (hset : s.clock.isSet = true → c.isSet = true) (hclock : c.value ≤ 4294967295 ∧ c.seconds ≤ 59)
    (hrange : ∀ x ∈ e, x.InRange) : ({ s with clock := c, exceptions := e } : State).Lawful := by
  obtain ⟨hstopped, hhalting, hout, hresume⟩ := h.programme
  exact lawful_of_outer h rfl rfl rfl rfl rfl rfl h.canonical
    { h.outer with
      exceptions := hexceptions, clock := hclock, exceptionRange := hrange
      programme := ⟨hstopped, hhalting, fun hp => (hout hp).imp_left hset, hresume⟩ }

theorem lawful_setAnswerTime {n : Nat} (hn : 10 ≤ n ∧ n ≤ 600) : ({ s with answerTime := n } : State).Lawful :=
  lawful_of_outer h rfl rfl rfl rfl rfl rfl h.canonical { h.outer with timing := hn }

/-- The attention unit written: its causes canonical and in range, its law kept. -/
theorem lawful_setAttention {a : Attention} (hcanonical : Table.Canonical CauseState.reset a.causes)
    (hlaw : ({ s with attention := a } : State).AttentionLaw)
    (hrange : ∀ c, (({ s with attention := a } : State).causeAt c).level ≤ 7
      ∧ (({ s with attention := a } : State).causeAt c).carried ≤ 65535) :
    ({ s with attention := a } : State).Lawful := by
  obtain ⟨hrec, hlook, hcls, hzone, hseg, hchan, hprof, -⟩ := h.canonical
  exact lawful_of_outer h rfl rfl rfl rfl rfl rfl ⟨hrec, hlook, hcls, hzone, hseg, hchan, hprof, hcanonical⟩
    { h.outer with attention := hlaw, causes := hrange }

end

end Sys2Proof.Machine

end

section
/-! PROOF. The laws of the whole part through the causes of attention, and through the channels while each stays bound to
its record. -/

namespace Sys2Proof.Machine

/-! ### Attention -/

section
variable {s t : State}

/-- The law of attention reads MAINS_CHANGE, OVERDUE, the map and the published overdue count. -/
theorem attentionLaw_of_causes (hmains : t.causeAt .mainsChange = s.causeAt .mainsChange)
    (hoverdue : t.causeAt .overdue = s.causeAt .overdue) (hmap : t.attention.changeMap = s.attention.changeMap)
    (hplanner : t.planner.publishedOverdue = s.planner.publishedOverdue) (h : s.AttentionLaw) : t.AttentionLaw := by
  rw [State.AttentionLaw, hmains, hoverdue, hmap, hplanner]; exact h

/-- A cause other than MAINS_CHANGE and OVERDUE, written in range. -/
theorem lawful_setCause (h : s.Lawful) {c : Cause} {v : CauseState} (hmains : c ≠ .mainsChange) (hoverdue : c ≠ .overdue)
    (hlevel : v.level ≤ 7) (hcarried : v.carried ≤ 65535) : (s.setCause c v).Lawful := by
  obtain ⟨-, -, -, -, -, -, -, hcause⟩ := h.canonical
  refine lawful_setAttention h (Table.canonical_put _ v hcause) (attentionLaw_of_causes (s := s) ?_ ?_ rfl rfl h.attention)
    fun d => ?_
  · exact (State.setCause_causeAt ..).trans (if_neg hmains)
  · exact (State.setCause_causeAt ..).trans (if_neg hoverdue)
  · show ((s.setCause c v).causeAt d).level ≤ 7 ∧ ((s.setCause c v).causeAt d).carried ≤ 65535
    rw [State.setCause_causeAt]
    split
    · exact ⟨hlevel, hcarried⟩
    · exact h.ranges.causes d

theorem lawful_raise (h : s.Lawful) {c : Cause} {v : Nat} (hmains : c ≠ .mainsChange) (hoverdue : c ≠ .overdue)
    (hv : v ≤ 65535) : (s.raise c v).Lawful :=
  lawful_setCause h hmains hoverdue (h.ranges.causes c).1 hv

theorem ProgrammeState.code_le (p : ProgrammeState) : p.code ≤ 65535 := by cases p <;> decide

theorem lawful_raiseProgramme (h : s.Lawful) : s.raiseProgramme.Lawful :=
  lawful_raise h (by decide) (by decide) (ProgrammeState.code_le _)

theorem markOf_ne_zero {g : Nat} (hg : g < 16) : markOf g ≠ 0 := by
  have hall : ∀ g : Fin 16, markOf g ≠ 0 := by decide
  exact hall ⟨g, hg⟩

theorem State.raiseMainsChange_causeAt (s : State) (g : Nat) (d : Cause) :
    (s.raiseMainsChange g).causeAt d
      = if .mainsChange = d then
          { s.causeAt .mainsChange with pending := true, carried := (s.attention.changeMap ||| markOf g).toNat }
        else s.causeAt d := State.raise_causeAt ..

/-- A mains transition of a segment is in the map that MAINS_CHANGE then carries (R150, R179). -/
theorem lawful_raiseMainsChange (h : s.Lawful) {g : Nat} (hg : g < 16) : (s.raiseMainsChange g).Lawful := by
  have hcan : (s.raiseMainsChange g).Canonical := by
    refine canonical_raise ?_ _ _
    exact h.canonical
  obtain ⟨-, -, -, -, -, -, -, hcause⟩ := hcan
  obtain ⟨-, -, hcarried, hpending⟩ := h.attention
  have hne : s.attention.changeMap ||| markOf g ≠ 0 := fun hzero =>
    markOf_ne_zero hg (BitVec.or_eq_zero_iff.mp hzero).2
  have hlaw : (s.raiseMainsChange g).AttentionLaw := by
    simp only [State.AttentionLaw, State.raiseMainsChange_causeAt, if_true, reduceCtorEq, if_false]
    exact ⟨rfl, iff_of_true trivial hne, hcarried, hpending⟩
  have hrange (d : Cause) :
      ((s.raiseMainsChange g).causeAt d).level ≤ 7 ∧ ((s.raiseMainsChange g).causeAt d).carried ≤ 65535 := by
    rw [State.raiseMainsChange_causeAt]
    split
    · exact ⟨(h.ranges.causes _).1, Nat.le_of_lt_succ (BitVec.isLt _)⟩
    · exact h.ranges.causes d
  exact lawful_setAttention h (a := (s.raiseMainsChange g).attention) hcause hlaw hrange

theorem lawful_mainsTransition (h : s.Lawful) {g : Nat} (hg : g < 16) {m : Mains} {o : Option Nat}
    (hmains : o.isSome = true ↔ m = .absent) (hminute : MinuteInRange o) : (s.mainsTransition g m o).Lawful :=
  lawful_raiseMainsChange
    (lawful_setSegment (e := { s.segmentAt g with mains := m, outageStart := o }) h rfl ⟨(h.ranges.segments g).1,
      (h.ranges.segments g).2.1⟩ hmains hminute) hg

end

/-! ### Channels that stay bound -/

section
variable {s t : State}

theorem boundCount_of_bound (hbound : ∀ k, t.bound k = s.bound k) : t.boundCount = s.boundCount := by
  rw [State.boundCount, State.boundCount, funext hbound]

theorem bindingLaw_channels (hrecords : t.luminaires = s.luminaires) (hsegments : t.segments = s.segments)
    (hexist : t.ChannelsExist) (hbound : ∀ k, t.bound k = s.bound k)
    (hindex : ∀ k, s.bound k = true → (t.channelAt k).index = (s.channelAt k).index) (h : s.BindingLaw) :
    t.BindingLaw := by
  obtain ⟨-, hrec, hone, htest, hactive⟩ := h
  have hread (i : Nat) : t.record? i = s.record? i := State.record?_congr hrecords i
  refine ⟨hexist, fun k hk => ?_, fun k j hk hj he => ?_, fun i r hr hin => ?_, fun g => ?_⟩
  · rw [hbound] at hk
    rw [hindex k hk, hread]
    exact hrec k hk
  · rw [hbound] at hk hj
    rw [hindex k hk, hindex j hj] at he
    exact hone k j hk hj he
  · rw [hread] at hr
    obtain ⟨k, hk, hki⟩ := htest i r hr hin
    exact ⟨k, (hbound k).trans hk, (hindex k hk).trans hki⟩
  · rw [State.segmentAt_congr hsegments, hactive g]
    congr 1
    refine List.filter_congr fun k _ => ?_
    rw [hbound]
    cases hk : s.bound k with
    | false => rfl
    | true => simp only [State.onSegment, hindex k hk, hread]

/-- Channels written while each stays bound to its record, or FREE: each lawful, in range, and with room for the orders
it has queued. -/
theorem lawful_setChannels (h : s.Lawful) (hframe : t = { s with channels := t.channels }) (hcan : t.Canonical)
    (hexist : t.ChannelsExist) (hbound : ∀ k, t.bound k = s.bound k)
    (hindex : ∀ k, s.bound k = true → (t.channelAt k).index = (s.channelAt k).index)
    (hgeneration : ∀ k, s.bound k = true → (t.channelAt k).generation = (s.channelAt k).generation)
    (hlawful : ∀ k, (t.channelAt k).Lawful ∧ (t.channelAt k).InRange)
    (hroom : ∀ k, (s.link.dispatch.countP fun o => o.channel == k) ≤ (t.channelAt k).state.orderRoom) : t.Lawful := by
  have w := h.ranges
  obtain ⟨-, hqueue, -⟩ := h.queue
  obtain ⟨hstopped, hhalting, hout, hresume⟩ := h.programme
  have hcount : t.boundCount = s.boundCount := boundCount_of_bound hbound
  have hbinding : t.BindingLaw :=
    bindingLaw_channels (by rw [hframe]) (by rw [hframe]) hexist hbound hindex h.binding
  have htimers : t.TimerLaw :=
    ⟨hexist, fun k => ⟨(hlawful k).1, (hlawful k).2.2.2.1⟩, by rw [hframe]; exact h.timers.2.2⟩
  have hqueueLaw : t.QueueLaw := by
    have horders : t.link.dispatch = s.link.dispatch := by rw [hframe]
    refine ⟨hexist, fun o ho => ?_, fun k => by rw [horders]; exact hroom k⟩
    obtain ⟨ho1, ho2⟩ := hqueue o (horders ▸ ho)
    exact ⟨(hbound _).trans ho1, ho2.trans (hgeneration _ ho1).symm⟩
  have hprogramme : t.ProgrammeLaw := by
    rw [State.ProgrammeLaw, hcount]
    rw [hframe]
    exact ⟨hstopped, hhalting, hout, hresume⟩
  have hchannels (k : Nat) := (hlawful k).2
  rw [hframe] at hcan hbinding htimers hqueueLaw hprogramme hchannels ⊢
  exact
    { canonical := hcan
      register := registerLaws_congr (s := s) rfl rfl rfl rfl h.register
      exceptions := h.exceptions
      binding := hbinding
      timers := htimers
      queue := hqueueLaw
      candidates := h.candidates
      programme := hprogramme
      mains := h.mains
      attention := h.attention
      port := h.port
      ranges := { w with channels := hchannels } }

/-- One bound channel written: bound to the same record still. -/
theorem lawful_setChannel (h : s.Lawful) {k : Nat} {c : Channel} (hk : s.bound k = true) (hstate : c.state ≠ .free)
    (hindex : c.index = (s.channelAt k).index) (hgeneration : c.generation = (s.channelAt k).generation)
    (hlawful : c.Lawful) (hrange : c.InRange)
    (hroom : (s.channelAt k).state.orderRoom ≤ c.state.orderRoom) : (s.setChannel k c).Lawful := by
  obtain ⟨hexist, -, hqueue⟩ := h.queue
  have hlt : k < 32 := by
    by_contra hge
    rw [State.bound_iff, hexist k (by omega)] at hk
    exact hk rfl
  have hat (j : Nat) := s.setChannel_channelAt k c j
  refine lawful_setChannels h rfl (canonical_setChannel h.canonical k c) (fun j hj => ?_) (fun j => ?_) (fun j hj => ?_)
    (fun j hj => ?_) (fun j => ?_) fun j => ?_
  · rw [hat, if_neg (by omega)]; exact hexist j hj
  · rw [State.bound, hat]
    split
    next hkj => subst hkj; rw [hk]; exact bne_iff_ne.mpr hstate
    · rfl
  · rw [hat]
    split
    next hkj => subst hkj; exact hindex
    · rfl
  · rw [hat]
    split
    next hkj => subst hkj; exact hgeneration
    · rfl
  · rw [hat]
    split
    · exact ⟨hlawful, hrange⟩
    · exact ⟨(h.timers.2.1 j).1, h.ranges.channels j⟩
  · rw [hat]
    split
    next hkj => subst hkj; exact (hqueue k).trans hroom
    · exact hqueue j

/-- A channel is below 32 when it is bound (R107). -/
theorem bound_lt (h : s.ChannelsExist) {k : Nat} (hk : s.bound k = true) : k < 32 := by
  by_contra hge
  rw [State.bound_iff, h k (by omega)] at hk
  exact hk rfl

/-- The record of a bound channel is there, under test (R66). -/
theorem boundRecord (h : s.Lawful) {k : Nat} (hk : s.bound k = true) :
    ∃ r, s.record? (s.channelAt k).index = some r ∧ r.state.inTest = true := h.binding.2.1 k hk

/-- An order queued by a bound channel that has room for it (R111). -/
theorem lawful_queueOrder (h : s.Lawful) {k : Nat} (kind : OrderKind) (hk : s.bound k = true)
    (hroom : (s.link.dispatch.countP fun o => o.channel == k) < (s.channelAt k).state.orderRoom) :
    (s.queueOrder kind k).Lawful := by
  obtain ⟨hexist, hbound, hqueue⟩ := h.queue
  obtain ⟨r, hr, -⟩ := boundRecord h hk
  obtain ⟨-, hsegment, haddress, -⟩ := h.register.names _ r hr
  have w := h.ranges
  have hrange : Order.InRange
      { kind := kind, channel := k, generation := (s.channelAt k).generation, segment := r.segment
        address := r.address } :=
    ⟨Nat.le_of_lt_succ (bound_lt hexist hk), (w.channels k).2.1, Nat.le_of_lt_succ hsegment,
      Nat.le_of_lt_succ haddress⟩
  unfold State.queueOrder
  rw [hr]
  refine lawful_setLink h id ⟨hexist, fun o ho => ?_, fun j => ?_⟩ w.threshold ⟨?_, w.queues.2⟩ fun o ho => ?_
  · rcases List.mem_append.mp ho with ho | ho
    · exact hbound o ho
    · cases List.mem_singleton.mp ho; exact ⟨hk, rfl⟩
  · show (List.countP _ (s.link.dispatch ++ [_])) ≤ _
    rw [List.countP_append, List.countP_singleton]
    by_cases hkj : k = j
    · subst hkj
      simp only [beq_self_eq_true, if_true]
      exact hroom
    · simp only [beq_eq_false_iff_ne.mpr hkj, Bool.false_eq_true, if_false]
      exact hqueue j
  · show (if s.link.dispatch.isEmpty = true then 0 else s.link.stallCount) ≤ 600
    split
    · exact Nat.zero_le _
    · exact w.queues.1
  · rcases List.mem_append.mp ho with ho | ho
    · exact w.orders o ho
    · cases List.mem_singleton.mp ho; exact hrange

end

/-! ### ABORT TEST, run expiry, the halt mark and the start of a run -/

section
variable {s : State} {k : Nat}

theorem ChannelState.orderRoom_le (c : ChannelState) : c.orderRoom ≤ ChannelState.aborting.orderRoom := by
  cases c <;> decide

/-- A channel set waiting for an answer is in range (R108). -/
theorem waiting_inRange (h : s.Lawful) {c : Channel} (hc : c.InRange) (state : ChannelState) :
    (s.waiting c state).InRange := by
  obtain ⟨hindex, hgeneration, hrun, helapsed, -⟩ := hc
  have htime := h.ranges.timing.2
  exact ⟨hindex, hgeneration, hrun, helapsed, show s.answerTime ≤ 14400 by omega⟩

theorem lawful_abortChannel (h : s.Lawful) (hk : s.bound k = true) (hstate : (s.channelAt k).state.orderRoom ≤ 1) :
    (s.abortChannel k).Lawful := by
  have hset : (s.setChannel k { s.waiting (s.channelAt k) .aborting with path := .order }).Lawful :=
    lawful_setChannel h hk ChannelState.noConfusion rfl rfl rfl (waiting_inRange h (h.ranges.channels k) .aborting)
      (hstate.trans one_le_two)
  refine lawful_queueOrder hset .abort ?_ ?_
  · rw [State.bound_iff, State.setChannel_channelAt_self]; exact ChannelState.noConfusion
  · rw [State.setChannel_channelAt_self]
    exact (Nat.lt_succ_of_le ((h.queue.2.2 k).trans hstate) : _ < 2)

theorem lawful_expireRun (h : s.Lawful) (k : Nat) : (s.expireRun k).Lawful := by
  unfold State.expireRun
  split
  next hdue =>
    simp only [Channel.runDue, Bool.and_eq_true, beq_iff_eq] at hdue
    obtain ⟨⟨hrunning, -⟩, hzero⟩ := hdue
    have hk : s.bound k = true := (s.bound_iff k).mpr (by rw [hrunning]; exact ChannelState.noConfusion)
    have hlawful := (h.timers.2.1 k).1
    simp only [Channel.Lawful, hrunning, hzero] at hlawful
    obtain ⟨-, hstarted, helapsed⟩ := hlawful
    have hset : (s.setChannel k (s.waiting (s.channelAt k) .stopping)).Lawful :=
      lawful_setChannel h hk ChannelState.noConfusion rfl rfl ⟨rfl, hstarted, helapsed.ge⟩
        (waiting_inRange h (h.ranges.channels k) .stopping) (by rw [hrunning]; exact one_le_two)
    have hroom := h.queue.2.2 k
    rw [hrunning] at hroom
    refine lawful_queueOrder hset .stop ?_ ?_
    · rw [State.bound_iff, State.setChannel_channelAt_self]; exact ChannelState.noConfusion
    · rw [State.setChannel_channelAt_self]
      exact (Nat.lt_succ_of_le hroom : _ < 2)
  · exact h

theorem Channel.takesHaltMark_iff (c : Channel) :
    c.takesHaltMark = true ↔ c.state = .ordered ∨ c.state = .running ∨ c.state = .stopping := by
  unfold Channel.takesHaltMark; cases c.state <;> simp

theorem lawful_haltMarkAt (h : s.Lawful) (m : SegMap) (k : Nat) : (State.haltMarkAt m s k).Lawful := by
  unfold State.haltMarkAt
  split
  next hmark =>
    have htakes := (Channel.takesHaltMark_iff _).mp (Bool.and_eq_true_iff.mp hmark).1
    refine lawful_setChannel h ((s.bound_iff k).mpr fun hfree => ?_) ChannelState.noConfusion rfl rfl rfl
      (waiting_inRange h (h.ranges.channels k) .aborting) ?_
    · rw [hfree] at htakes; simp at htakes
    · exact ChannelState.orderRoom_le _
  · exact h

theorem lawful_haltMark (h : s.Lawful) (m : SegMap) : (s.haltMark m).Lawful :=
  foldl_keeps (P := State.Lawful) (fun _ k h => lawful_haltMarkAt h m k) _ h

/-- The halt word is in no law but that the link is CONFIGURED as before. -/
theorem lawful_writeHaltWord (h : s.Lawful) : s.writeHaltWord.Lawful := by
  unfold State.writeHaltWord
  split
  · have hlink : ({ s with link := { s.link with haltBox := some s.pendingHalt } } : State).Lawful :=
      lawful_setLink h id h.queue h.ranges.threshold h.ranges.queues h.ranges.orders
    exact lawful_unread hlink rfl h.canonical
  · exact h

theorem lawful_joinHalt (h : s.Lawful) (m : SegMap) : (s.joinHalt m).Lawful := by
  have hjoined : ({ s with pendingHalt := s.pendingHalt ||| m } : State).Lawful := lawful_unread h rfl h.canonical
  exact lawful_writeHaltWord (lawful_haltMark hjoined m)

/-- A record under test has no hold (R65). -/
theorem hold_of_inTest (h : s.HoldLaw) {i : Nat} {r : Record} (hr : s.record? i = some r)
    (hin : r.state.inTest = true) : r.hold = none :=
  (h i r hr).2 (by cases hst : r.state <;> simp_all [RecordState.inTest])

theorem lawful_startRun (h : s.Lawful) (hordered : (s.channelAt k).state = .ordered) : (s.startRun k).Lawful := by
  have hk : s.bound k = true := (s.bound_iff k).mpr (by rw [hordered]; exact ChannelState.noConfusion)
  obtain ⟨r, hr, hin⟩ := boundRecord h hk
  have hlawful := (h.timers.2.1 k).1
  simp only [Channel.Lawful, hordered] at hlawful
  obtain ⟨-, -, hzero⟩ := hlawful
  obtain ⟨hindex, hgeneration, hrun, helapsed, -⟩ := h.ranges.channels k
  have hset := lawful_setChannel
    (c := { s.channelAt k with
      state := .running, started := true, role := .run, target := (s.channelAt k).runSeconds })
    h hk ChannelState.noConfusion rfl rfl ⟨rfl, rfl, by simp only [hzero, Nat.zero_add]⟩
    ⟨hindex, hgeneration, hrun, helapsed, hrun⟩ (by rw [hordered]; exact le_rfl)
  have hhold : r.hold = none := hold_of_inTest h.register.holds hr hin
  unfold State.startRun State.startMark
  simp only
  rw [show (State.setChannel s k _).record? (s.channelAt k).index = some r from hr]
  exact lawful_transition hset hr ⟨rfl, rfl, rfl, rfl, rfl⟩ hin.symm
    ⟨RecordState.noConfusion, fun _ => hhold⟩ (h.ranges.records _ r hr)

end

end Sys2Proof.Machine

end

section
/-! PROOF. The laws of the whole part through the close of a channel (R125). -/

namespace Sys2Proof.Machine

/-! ### The record a verdict leaves (R70 to R77) -/

section
variable {s : State} {r : Record} {x : Closing}

/-- The record after a verdict, its last outcome written (R70). -/
def State.closed (s : State) (r : Record) (x : Closing) : Record :=
  { s.judged r x with lastOutcome := some (s.outcomeOf x) }

theorem State.closed_samePlace (s : State) (r : Record) (x : Closing) : r.SamePlace (s.closed r x) := by
  unfold State.closed
  rw [State.judged_frame]
  exact ⟨rfl, rfl, rfl, rfl, rfl⟩

theorem State.closed_inTest (s : State) (r : Record) (x : Closing) : (s.closed r x).state.inTest = false :=
  s.judged_state r x

/-- Whatever the verdict, the record is READY, or RECHARGING with a hold, or FAULTY or SILENT without one. -/
theorem State.judged_holdFits (s : State) (r : Record) (x : Closing) : (s.judged r x).HoldFits := by
  have hready (q : Record) (n : Nat) : (s.retrying q n).HoldFits := by simp [Record.HoldFits, State.retrying]
  have hrecharging (q : Record) : (s.recharging q x).HoldFits := by simp [Record.HoldFits, State.recharging]
  have hsilent (q : Record) : q.silenced.HoldFits := by simp [Record.HoldFits, Record.silenced]
  unfold State.judged
  split
  · exact hrecharging _
  · exact hrecharging _
  · simp [Record.HoldFits]
  · simp [Record.HoldFits]
  · split
    · exact hready _ _
    · split
      · exact hsilent _
      · exact hready _ _
  · split
    · exact hsilent _
    · split
      · exact hrecharging _
      · exact hready _ _
  · split
    · exact hrecharging _
    · simp [Record.HoldFits]

theorem minuteInRange_some {n : Nat} (h : n ≤ 4294967295) : MinuteInRange (some n) := fun _ hn => by
  cases hn; exact h

theorem minuteInRange_none : MinuteInRange none := fun _ hn => by cases hn

/-- Whatever the verdict, the record's counts and minutes stay in range (R2, R45). -/
theorem State.judged_inRange (hnow : s.now ≤ 4294967295) (hr : r.InRange) : (s.judged r x).InRange := by
  obtain ⟨hno, henrol, hfunction, hduration, hhold, hlast⟩ := hr
  have hready {q : Record} (n : Nat) (hq : q.InRange) : (s.retrying q n).InRange := by
    obtain ⟨h1, h2, h3, h4, -, h6⟩ := hq
    exact ⟨h1, h2, h3, h4, minuteInRange_some (satAdd_le _ _), h6⟩
  have hrecharging {q : Record} (hq : q.InRange) : (s.recharging q x).InRange := by
    obtain ⟨h1, h2, h3, h4, -, h6⟩ := hq
    exact ⟨h1, h2, h3, h4, minuteInRange_some (satAdd_le _ _), h6⟩
  have hunanswered : r.unanswered.InRange := ⟨Nat.min_le_left _ _, henrol, hfunction, hduration, hhold, hlast⟩
  have hsilent : r.unanswered.silenced.InRange :=
    ⟨Nat.min_le_left _ _, henrol, hfunction, hduration, minuteInRange_none, hlast⟩
  have hpassed : (s.passed r x).InRange := by
    refine hrecharging ?_
    unfold Record.passMarks
    split
    · exact ⟨Nat.zero_le _, henrol, hfunction, hduration, hhold, hlast⟩
    · split
      · exact ⟨Nat.zero_le _, henrol, minuteInRange_some hnow, hduration, hhold, hlast⟩
      · exact ⟨Nat.zero_le _, henrol, minuteInRange_some hnow, minuteInRange_some hnow, hhold, hlast⟩
  unfold State.judged
  split
  · exact hpassed
  · exact hpassed
  · exact ⟨hno, henrol, hfunction, hduration, minuteInRange_none, hlast⟩
  · exact ⟨hno, henrol, hfunction, hduration, minuteInRange_none, hlast⟩
  · split
    · exact hready _ ⟨hno, henrol, hfunction, hduration, hhold, hlast⟩
    · split
      · exact hsilent
      · exact hready _ hunanswered
  · split
    · exact hsilent
    · split
      · exact hrecharging hunanswered
      · exact hready _ hunanswered
  · split
    · exact hrecharging ⟨hno, henrol, hfunction, hduration, hhold, hlast⟩
    · exact ⟨hno, henrol, hfunction, hduration, minuteInRange_none, hlast⟩

theorem State.closed_inRange (hnow : s.now ≤ 4294967295) (hr : r.InRange) (helapsed : x.elapsed ≤ 65535) :
    (s.closed r x).InRange := by
  obtain ⟨h1, h2, h3, h4, h5, -⟩ := State.judged_inRange (x := x) hnow hr
  refine ⟨h1, h2, h3, h4, h5, fun o ho => ?_⟩
  cases ho
  exact ⟨hnow, helapsed, capacityPermille_le _ _ _⟩

theorem now_le (h : s.Lawful) : s.now ≤ 4294967295 := by
  unfold State.now
  split
  · exact h.ranges.clock.1
  · exact Nat.zero_le _

end

/-! ### The register's part of a close (R125) -/

/-- What a channel hands the register when it closes. -/
def Channel.closing (c : Channel) (v : Verdict) (d : Option Detail) : Closing :=
  { kind := c.kind, verdict := v, detail := d, elapsed := c.elapsed, run := c.runSeconds }

/-- The register's part of a close but for the active count: the record freed under retire pending, or judged. -/
def State.settleRecord (s : State) (c : Channel) (r : Record) (v : Verdict) (d : Option Detail) : State :=
  if r.retirePending then s.freeRecord c.index r else s.applyVerdict c.index r (c.closing v d)

section
variable {s : State} {c : Channel} {r : Record} {v : Verdict} {d : Option Detail}

theorem State.registerClose_eq (hr : s.record? c.index = some r) :
    s.registerClose c v d = (s.settleRecord c r v d).lowerActive r.segment := by
  unfold State.registerClose
  rw [hr]; rfl

theorem State.applyVerdict_eq (s : State) (i : Nat) (r : Record) (x : Closing) :
    s.applyVerdict i r x = (s.transition i r (s.closed r x)).noticeEntry i (s.closed r x).state := rfl

theorem State.settleRecord_frame (s : State) (c : Channel) (r : Record) (v : Verdict) (d : Option Detail) :
    s.settleRecord c r v d
      = { s with
          luminaires := (s.settleRecord c r v d).luminaires
          zones := (s.settleRecord c r v d).zones
          classes := (s.settleRecord c r v d).classes
          lookup := (s.settleRecord c r v d).lookup
          attention := (s.settleRecord c r v d).attention } := by
  unfold State.settleRecord
  split
  · rw [State.freeRecord_frame]
  · rw [State.applyVerdict_frame]

theorem canonical_settleRecord (h : s.Canonical) : (s.settleRecord c r v d).Canonical := by
  unfold State.settleRecord
  split
  · exact canonical_freeRecord h _ _
  · exact canonical_applyVerdict h _ _ _

theorem State.settleRecord_settings (s : State) (c : Channel) (r : Record) (v : Verdict) (d : Option Detail) :
    s.SameSettings (s.settleRecord c r v d) := by
  unfold State.settleRecord
  split
  · exact s.freeRecord_settings c.index r
  · rw [State.applyVerdict_eq, State.noticeEntry_frame]
    exact (s.transition_settings c.index r _).trans (.of_eq rfl rfl)

theorem registerLaws_settleRecord (hc : Table.Rising s.luminaires) (h : s.RegisterLaws)
    (hr : s.record? c.index = some r) : (s.settleRecord c r v d).RegisterLaws := by
  unfold State.settleRecord
  split
  · exact registerLaws_freeRecord hc h hr
  · have hsettled : (s.transition c.index r (s.closed r (c.closing v d))).RegisterLaws :=
      registerLaws_transition hc h hr (s.closed_samePlace r _)
        (fun hin => absurd hin (by rw [State.closed_inTest]; exact Bool.false_ne_true)) (s.judged_holdFits r _)
    rw [State.applyVerdict_eq, State.noticeEntry_frame]
    exact registerLaws_congr (s := s.transition c.index r (s.closed r (c.closing v d))) rfl rfl rfl rfl hsettled

/-- Of another slot, a close changes no more than a neighbour that is freed. -/
theorem State.settleRecord_source (h : s.NeighbourLaw) (hr : s.record? c.index = some r) {j : Nat} {p : Record}
    (hj : j ≠ c.index) (hp : (s.settleRecord c r v d).record? j = some p) :
    ∃ p', s.record? j = some p' ∧ p = { p' with neighbours := p.neighbours } := by
  unfold State.settleRecord at hp
  split at hp
  · obtain ⟨-, p', hp', rfl⟩ := State.freeRecord_source h hr hp
    exact ⟨p', hp', rfl⟩
  · rw [State.applyVerdict_record?, if_neg (Ne.symm hj)] at hp
    exact ⟨p, hp, rfl⟩

theorem State.settleRecord_target (h : s.NeighbourLaw) (hr : s.record? c.index = some r) {j : Nat} {p : Record}
    (hj : j ≠ c.index) (hp : s.record? j = some p) :
    ∃ q, (s.settleRecord c r v d).record? j = some q ∧ q = { p with neighbours := q.neighbours } := by
  unfold State.settleRecord
  split
  · exact ⟨_, State.freeRecord_target h hr hj hp, rfl⟩
  · exact ⟨p, by rw [State.applyVerdict_record?, if_neg (Ne.symm hj), hp], rfl⟩

/-- The record closed is gone, or judged. -/
theorem State.settleRecord_self {p : Record} (hp : (s.settleRecord c r v d).record? c.index = some p) :
    p = s.closed r (c.closing v d) := by
  unfold State.settleRecord at hp
  split at hp
  · rw [State.freeRecord_record?, if_pos rfl] at hp; cases hp
  · rw [State.applyVerdict_record?, if_pos rfl] at hp
    exact (Option.some.inj hp).symm

/-- A close raises no cause but FAULT_FOUND or SILENT_FOUND, carrying the record's index. -/
theorem State.settleRecord_causeAt (s : State) (c : Channel) (r : Record) (v : Verdict) (d : Option Detail) (x : Cause) :
    (s.settleRecord c r v d).causeAt x = s.causeAt x
      ∨ ((x = .faultFound ∨ x = .silentFound)
        ∧ (s.settleRecord c r v d).causeAt x = { s.causeAt x with pending := true, carried := c.index }) := by
  unfold State.settleRecord
  split
  · left; rw [State.freeRecord_frame]; rfl
  · rw [State.applyVerdict_eq, State.noticeEntry_causeAt]
    split
    next hx => exact .inr ⟨hx.imp And.right And.right, rfl⟩
    · exact .inl rfl

theorem State.settleRecord_changeMap (s : State) (c : Channel) (r : Record) (v : Verdict) (d : Option Detail) :
    (s.settleRecord c r v d).attention.changeMap = s.attention.changeMap := by
  unfold State.settleRecord
  split
  · rw [State.freeRecord_frame]
  · rw [State.applyVerdict_eq]
    unfold State.noticeEntry
    split <;> rfl

end

/-! ### The close (R125) -/

/-- The state at a close before the end of a halt: the register's part done, the orders withdrawn, the channel FREE. -/
def State.unbind (s : State) (k : Nat) (r : Record) (v : Verdict) (d : Option Detail) : State :=
  ((((s.settleRecord (s.channelAt k) r v d).lowerActive r.segment).withdraw k (s.channelAt k).generation).setChannel k
    { s.channelAt k with state := .free, role := .none })

section
variable {s : State} {k : Nat} {r : Record} {v : Verdict} {d : Option Detail}

theorem State.close_eq (hr : s.record? (s.channelAt k).index = some r) :
    s.close k v d = (s.unbind k r v d).haltEnd := by
  unfold State.close
  simp only
  rw [State.registerClose_eq hr]; rfl

theorem State.unbind_record? (j : Nat) :
    (s.unbind k r v d).record? j = (s.settleRecord (s.channelAt k) r v d).record? j := rfl

theorem State.unbind_channelAt (j : Nat) :
    (s.unbind k r v d).channelAt j
      = if k = j then { s.channelAt k with state := .free, role := .none } else s.channelAt j := by
  refine (State.setChannel_channelAt ..).trans ?_
  split
  · rfl
  · show (s.settleRecord (s.channelAt k) r v d).channelAt j = _
    rw [State.settleRecord_frame]; rfl

theorem State.unbind_bound (j : Nat) : (s.unbind k r v d).bound j = (s.bound j && j != k) := by
  rw [State.bound, State.unbind_channelAt]
  split
  next hkj => subst hkj; simp
  next hkj => simp [State.bound, Ne.symm hkj]

theorem State.unbind_segmentAt (g : Nat) :
    (s.unbind k r v d).segmentAt g
      = if r.segment = g then { s.segmentAt g with active := (s.segmentAt g).active - 1 } else s.segmentAt g := by
  have hseg (g : Nat) : (s.settleRecord (s.channelAt k) r v d).segmentAt g = s.segmentAt g := by
    rw [State.settleRecord_frame]; rfl
  refine (State.setSegment_segmentAt ..).trans ?_
  rw [hseg, hseg]
  split
  next hg => rw [hg]
  · rfl

theorem State.unbind_dispatch :
    (s.unbind k r v d).link.dispatch
      = s.link.dispatch.filter fun o => !o.belongs k (s.channelAt k).generation := by
  show (s.settleRecord (s.channelAt k) r v d).link.dispatch.filter _ = _
  rw [State.settleRecord_frame]

/-- The number of a list's members that satisfy a test, without one of them. -/
theorem length_filter_without {l : List Nat} (hl : l.Nodup) {p : Nat → Bool} {k : Nat} (hk : k ∈ l) :
    (l.filter fun j => p j && j != k).length = (l.filter p).length - if p k then 1 else 0 := by
  have hfilter : (l.filter fun j => p j && j != k) = (l.filter p).erase k := by
    rw [(hl.filter p).erase_eq_filter, List.filter_filter]
    exact List.filter_congr fun j _ => Bool.and_comm _ _
  rw [hfilter, List.length_erase]
  simp only [List.mem_filter, hk, true_and]
  split <;> simp

theorem mem_allChannels {k : Nat} : k ∈ allChannels ↔ k < 32 := by simp [allChannels, Config.channelCount]

theorem allChannels_nodup : allChannels.Nodup := List.nodup_range

theorem bindingLaw_unbind (h : s.Lawful) (hk : s.bound k = true) (hr : s.record? (s.channelAt k).index = some r) :
    (s.unbind k r v d).BindingLaw := by
  obtain ⟨hexist, hbound, hone, htest, hactive⟩ := h.binding
  have hn := h.register.neighbours
  have hlt := bound_lt hexist hk
  have hother {j : Nat} (hj : j ≠ k) : (s.unbind k r v d).channelAt j = s.channelAt j := by
    rw [State.unbind_channelAt, if_neg (Ne.symm hj)]
  have hindex {j : Nat} (hj : s.bound j = true) (hjk : j ≠ k) : (s.channelAt j).index ≠ (s.channelAt k).index :=
    fun he => hjk (hone j k hj hk he)
  refine ⟨fun j hj => ?_, fun j hj => ?_, fun j m hj hm he => ?_, fun i q hq hin => ?_, fun g => ?_⟩
  · rw [hother (by omega)]; exact hexist j hj
  · rw [State.unbind_bound, Bool.and_eq_true, bne_iff_ne] at hj
    obtain ⟨p, hp, hpin⟩ := hbound j hj.1
    obtain ⟨q, hq, he⟩ := State.settleRecord_target (v := v) (d := d) hn hr (hindex hj.1 hj.2) hp
    rw [hother hj.2]
    exact ⟨q, hq, by rw [he]; exact hpin⟩
  · rw [State.unbind_bound, Bool.and_eq_true, bne_iff_ne] at hj hm
    rw [hother hj.2, hother hm.2] at he
    exact hone j m hj.1 hm.1 he
  · have hi : i ≠ (s.channelAt k).index := by
      rintro rfl
      rw [State.settleRecord_self hq, State.closed_inTest] at hin
      cases hin
    obtain ⟨p, hp, he⟩ := State.settleRecord_source hn hr hi hq
    obtain ⟨j, hj, hji⟩ := htest i p hp (by rw [he] at hin; exact hin)
    have hjk : j ≠ k := fun he => hi (by rw [← hji, he])
    exact ⟨j, by rw [State.unbind_bound, hj, Bool.true_and, bne_iff_ne]; exact hjk, by rw [hother hjk]; exact hji⟩
  · have hsame : (allChannels.filter fun j => (s.unbind k r v d).bound j && (s.unbind k r v d).onSegment j g)
        = allChannels.filter fun j => (s.bound j && s.onSegment j g) && j != k := by
      refine List.filter_congr fun j _ => ?_
      rw [State.unbind_bound]
      by_cases hjk : j = k
      · subst hjk; simp
      · cases hj : s.bound j with
        | false => rfl
        | true =>
          obtain ⟨p, hp, -⟩ := hbound j hj
          obtain ⟨q, hq, he⟩ := State.settleRecord_target (v := v) (d := d) hn hr (hindex hj hjk) hp
          have hseg : q.segment = p.segment := by rw [he]
          rw [State.onSegment, hother hjk, State.unbind_record?, hq, State.onSegment, hp]
          simp only [bne_iff_ne.mpr hjk, hseg, Bool.true_and, Bool.and_true]
    have hself : (s.bound k && s.onSegment k g) = (r.segment == g) := by
      rw [hk, Bool.true_and, State.onSegment, hr]
    rw [hsame, length_filter_without allChannels_nodup (mem_allChannels.mpr hlt), ← hactive g, State.unbind_segmentAt,
      hself]
    by_cases hg : r.segment = g
    · simp [hg]
    · simp [hg]

theorem queueLaw_unbind (h : s.Lawful) : (s.unbind k r v d).QueueLaw := by
  obtain ⟨hexist, hbound, hroom⟩ := h.queue
  have hmem {o : Order} (ho : o ∈ (s.unbind k r v d).link.dispatch) : o ∈ s.link.dispatch ∧ o.channel ≠ k := by
    rw [State.unbind_dispatch, List.mem_filter, Bool.not_eq_true', ← Bool.not_eq_true, Order.belongs_iff] at ho
    obtain ⟨ho, hnot⟩ := ho
    exact ⟨ho, fun hc => hnot ⟨hc, by rw [(hbound o ho).2, hc]⟩⟩
  refine ⟨fun j hj => ?_, fun o ho => ?_, fun j => ?_⟩
  · by_cases hjk : k = j
    · subst hjk
      rw [State.unbind_channelAt, if_pos rfl, hexist k hj]; rfl
    · rw [State.unbind_channelAt, if_neg hjk]; exact hexist j hj
  · obtain ⟨ho, hok⟩ := hmem ho
    obtain ⟨hb, hg⟩ := hbound o ho
    rw [State.unbind_bound, State.unbind_channelAt, if_neg (Ne.symm hok), hb, Bool.true_and, bne_iff_ne]
    exact ⟨hok, hg⟩
  · by_cases hjk : k = j
    · subst hjk
      refine Nat.le_of_eq ?_ |>.trans (Nat.zero_le _)
      exact List.countP_eq_zero.mpr fun o ho => by simpa using (hmem ho).2
    · rw [State.unbind_channelAt, if_neg hjk, State.unbind_dispatch]
      exact (List.Sublist.countP_le List.filter_sublist).trans (hroom j)

theorem timerLaw_unbind (h : s.Lawful) : (s.unbind k r v d).TimerLaw := by
  obtain ⟨-, hlawful, hfigures⟩ := h.timers
  refine ⟨(queueLaw_unbind h).1, fun j => ?_, fun c => ?_⟩
  · rw [State.unbind_channelAt]
    split
    · exact ⟨rfl, (hlawful k).2⟩
    · exact hlawful j
  · have hset : s.SameSettings (s.unbind k r v d) := s.settleRecord_settings (s.channelAt k) r v d
    rw [State.figures_settings hset]
    exact hfigures c

theorem mainsLaw_unbind (h : s.MainsLaw) : (s.unbind k r v d).MainsLaw := fun g => by
  rw [State.unbind_segmentAt]
  split
  · exact h g
  · exact h g

/-- The end of a halt in a close that leaves no channel bound (R164). -/
theorem programmeLaw_haltEnd {t : State} (hstopped : t.programme.state ≠ .stopped)
    (hout : t.clock.isSet = true ∧ t.link.configured = true)
    (hresume : t.programme.resumeMinute.isSome = true → t.programme.state = .suspended) : t.haltEnd.ProgrammeLaw := by
  unfold State.haltEnd
  split
  next hend =>
    obtain ⟨hhalting, hzero⟩ := hend
    refine ⟨fun _ => hzero, fun hp => ProgrammeState.noConfusion hp, fun hp => absurd rfl hp, fun hp => ?_⟩
    have hsuspended := hresume hp
    rw [hhalting] at hsuspended
    cases hsuspended
  next hend =>
    exact ⟨fun hp => absurd hp hstopped, fun hp => Nat.pos_of_ne_zero fun hzero => hend ⟨hp, hzero⟩, fun _ => hout,
      hresume⟩

theorem State.haltEnd_channels (s : State) : s.haltEnd.channels = s.channels := by rw [State.haltEnd_frame]

/-- The cause raised at the end of a halt is PROGRAMME. -/
theorem haltEnd_causes {t : State} (h : ∀ c, (t.causeAt c).level ≤ 7 ∧ (t.causeAt c).carried ≤ 65535) (c : Cause) :
    (t.haltEnd.causeAt c).level ≤ 7 ∧ (t.haltEnd.causeAt c).carried ≤ 65535 := by
  unfold State.haltEnd
  split
  · unfold State.raiseProgramme
    rw [State.raise_causeAt]
    split
    · exact ⟨(h _).1, ProgrammeState.code_le .stopped⟩
    · exact h c
  · exact h c

theorem State.haltEnd_changeMap (s : State) : s.haltEnd.attention.changeMap = s.attention.changeMap := by
  unfold State.haltEnd; split <;> rfl

theorem State.haltEnd_resumeMinute (s : State) : s.haltEnd.programme.resumeMinute = s.programme.resumeMinute := by
  unfold State.haltEnd; split <;> rfl

theorem State.unbind_frame (s : State) (k : Nat) (r : Record) (v : Verdict) (d : Option Detail) :
    s.unbind k r v d
      = { s with
          luminaires := (s.settleRecord (s.channelAt k) r v d).luminaires
          zones := (s.settleRecord (s.channelAt k) r v d).zones
          classes := (s.settleRecord (s.channelAt k) r v d).classes
          lookup := (s.settleRecord (s.channelAt k) r v d).lookup
          segments := (s.unbind k r v d).segments
          channels := (s.unbind k r v d).channels
          link := (s.unbind k r v d).link
          attention := (s.settleRecord (s.channelAt k) r v d).attention } := by
  unfold State.unbind
  rw [State.settleRecord_frame]; rfl

theorem State.unbind_link (s : State) (k : Nat) (r : Record) (v : Verdict) (d : Option Detail) :
    (s.unbind k r v d).link
      = { s.link with
          dispatch := (s.unbind k r v d).link.dispatch, stallCount := (s.unbind k r v d).link.stallCount } := by
  unfold State.unbind
  rw [State.settleRecord_frame]; rfl

theorem unbind_stallCount_le (h : s.link.stallCount ≤ 600) : (s.unbind k r v d).link.stallCount ≤ 600 := by
  unfold State.unbind
  rw [State.settleRecord_frame]
  have hite (b : Bool) : (if b then 0 else s.link.stallCount) ≤ 600 := by
    cases b with
    | true => exact Nat.zero_le _
    | false => exact h
  exact hite _

theorem unbind_causes (w : s.RangeLaw) (x : Cause) :
    ((s.unbind k r v d).causeAt x).level ≤ 7 ∧ ((s.unbind k r v d).causeAt x).carried ≤ 65535 := by
  show ((s.settleRecord (s.channelAt k) r v d).causeAt x).level ≤ 7
    ∧ ((s.settleRecord (s.channelAt k) r v d).causeAt x).carried ≤ 65535
  rcases s.settleRecord_causeAt (s.channelAt k) r v d x with he | ⟨-, he⟩ <;> rw [he]
  · exact w.causes x
  · have hindex := (w.channels k).1
    exact ⟨(w.causes x).1, show (s.channelAt k).index ≤ 65535 by omega⟩

/-- A close touches neither MAINS_CHANGE nor OVERDUE. -/
theorem State.unbind_haltEnd_causeAt {x : Cause} (hx : x = .mainsChange ∨ x = .overdue) :
    (s.unbind k r v d).haltEnd.causeAt x = s.causeAt x := by
  have hp : x ≠ .programme := by rcases hx with rfl | rfl <;> decide
  rw [State.haltEnd_causeAt _ hp]
  refine (s.settleRecord_causeAt (s.channelAt k) r v d x).resolve_right fun hraised => ?_
  rcases hx with rfl | rfl <;> simp at hraised

/-- The close of a bound channel keeps every law. -/
theorem lawful_close (h : s.Lawful) (hk : s.bound k = true) (v : Verdict) (d : Option Detail) :
    (s.close k v d).Lawful := by
  obtain ⟨r, hr, hin⟩ := boundRecord h hk
  have hcan : (s.close k v d).Canonical := canonical_close h.canonical k v d
  have hcount : 0 < s.boundCount := List.length_pos_of_mem
    (List.mem_filter.mpr ⟨mem_allChannels.mpr (bound_lt h.queue.1 hk), hk⟩)
  obtain ⟨hstopped, -, hout, hresume⟩ := h.programme
  have hnot : s.programme.state ≠ .stopped := fun hp => (hstopped hp ▸ hcount).false
  rw [State.close_eq hr] at hcan ⊢
  have hframe := s.unbind_frame k r v d
  have hlink := s.unbind_link k r v d
  have hset : s.SameSettings (s.unbind k r v d) := s.settleRecord_settings (s.channelAt k) r v d
  have hreg : (s.unbind k r v d).RegisterLaws :=
    registerLaws_congr (s := s.settleRecord (s.channelAt k) r v d) rfl rfl rfl rfl
      (registerLaws_settleRecord h.canonical.1 h.register hr)
  have hrise : Table.Rising (s.unbind k r v d).luminaires := (canonical_settleRecord h.canonical).1
  have hend := (s.unbind k r v d).haltEnd_frame
  have hplanner : (s.unbind k r v d).haltEnd.planner = s.planner := by rw [hend, hframe]
  have hconf : (s.unbind k r v d).link.configured = s.link.configured := by rw [hlink]
  have w := h.ranges
  exact
    { canonical := hcan
      register := registerLaws_congr (s := s.unbind k r v d) (by rw [hend]) (by rw [hend]) (by rw [hend]) (by rw [hend])
        hreg
      exceptions := exceptionLaw_congr (s := s) (by rw [hend, hframe]) (by rw [hend, hframe]) h.exceptions
      binding := bindingLaw_congr (s := s.unbind k r v d) (by rw [hend]) (by rw [hend]) (by rw [hend])
        (bindingLaw_unbind h hk hr)
      timers := timerLaw_congr (s := s.unbind k r v d) (by rw [hend]) (by rw [hend]) (timerLaw_unbind h)
      queue := queueLaw_congr (s := s.unbind k r v d) (by rw [hend]) (by rw [hend]) (queueLaw_unbind h)
      candidates := candidateLaw_congr hplanner h.candidates
      programme := programmeLaw_haltEnd (by rw [hframe]; exact hnot)
        ⟨by rw [hframe]; exact (hout hnot).1, by rw [hconf]; exact (hout hnot).2⟩ (by rw [hframe]; exact hresume)
      mains := mainsLaw_congr (s := s.unbind k r v d) (by rw [hend]) (mainsLaw_unbind h.mains)
      attention := attentionLaw_of_causes (State.unbind_haltEnd_causeAt (.inl rfl))
        (State.unbind_haltEnd_causeAt (.inr rfl)) ((State.haltEnd_changeMap _).trans (s.settleRecord_changeMap _ _ _ _)) (by rw [hplanner]) h.attention
      port := portLaw_congr (s := s) (by rw [hend, hframe]) h.port
      ranges :=
        { clock := by rw [hend, hframe]; exact w.clock
          timing := by rw [hend, hframe]; exact w.timing
          threshold := by rw [hend]; show _; rw [hlink]; exact w.threshold
          turnaround := by rw [hend, hframe]; exact w.turnaround
          queues := by rw [hend]; exact ⟨unbind_stallCount_le w.queues.1, by rw [hlink]; exact w.queues.2⟩
          orders := by
            rw [hend]
            show ∀ o ∈ (s.unbind k r v d).link.dispatch, o.InRange
            rw [State.unbind_dispatch]
            exact fun o ho => w.orders o (List.mem_filter.mp ho).1
          causes := haltEnd_causes (unbind_causes w)
          classes := by
            rw [hend]; exact classes_inRange hset hrise hreg.names hreg.classUsers w.classes
          zones := by
            rw [hend]; exact zones_inRange hset hrise hreg.names hreg.zoneCounts w.zones
          segments := fun g => by
            rw [hend]
            show ((s.unbind k r v d).segmentAt g).InRange
            rw [State.unbind_segmentAt]
            obtain ⟨hlo, hhi, hactive, hminute⟩ := w.segments g
            split
            · exact ⟨hlo, hhi, (Nat.sub_le _ _).trans hactive, hminute⟩
            · exact ⟨hlo, hhi, hactive, hminute⟩
          channels := fun j => by
            rw [hend]
            show ((s.unbind k r v d).channelAt j).InRange
            rw [State.unbind_channelAt]
            split
            · exact w.channels k
            · exact w.channels j
          records := fun i q hq => by
            rw [hend] at hq
            change (s.settleRecord (s.channelAt k) r v d).record? i = some q at hq
            by_cases hi : i = (s.channelAt k).index
            · subst hi
              rw [State.settleRecord_self hq]
              exact State.closed_inRange (now_le h) (w.records _ r hr) (w.channels k).2.2.2.1
            · obtain ⟨p, hp, he⟩ := State.settleRecord_source h.register.neighbours hr hi hq
              rw [he]
              exact w.records i p hp
          exceptions := by rw [hend, hframe]; exact w.exceptions
          planner := by rw [hplanner]; exact w.planner
          resumeMinute := by
            have hminute : (s.unbind k r v d).haltEnd.programme.resumeMinute = s.programme.resumeMinute := by
              rw [State.haltEnd_resumeMinute, hframe]
            rw [hminute]; exact w.resumeMinute } }

end

end Sys2Proof.Machine

end

section
/-! PROOF. The laws of the whole part through the expiries, the settling before a command, the reports and the mains. -/

namespace Sys2Proof.Machine

/-! ### Expiries and settling (R113, R114, R138) -/

section
variable {s : State} {k : Nat}

theorem lawful_closeVoid (h : s.Lawful) (hk : s.bound k = true) : (s.closeVoid k).Lawful := lawful_close h hk _ _

theorem bound_of_state {st : ChannelState} (hst : (s.channelAt k).state = st) (hne : st ≠ .free) : s.bound k = true :=
  (s.bound_iff k).mpr (hst ▸ hne)

theorem lawful_answerClose (h : s.Lawful) (k : Nat) : (s.answerClose k).Lawful := by
  unfold State.answerClose
  simp only
  split
  next hst => exact lawful_close h (bound_of_state hst ChannelState.noConfusion) _ _
  next hst => exact lawful_close h (bound_of_state hst ChannelState.noConfusion) _ _
  next hst =>
    have hclosed := lawful_closeVoid h (bound_of_state hst ChannelState.noConfusion)
    split
    · exact lawful_raise hclosed Cause.noConfusion Cause.noConfusion (Nat.zero_le _)
    · exact hclosed
  · exact h

theorem lawful_expireAnswer (h : s.Lawful) (k : Nat) : (s.expireAnswer k).Lawful := by
  unfold State.expireAnswer
  split
  · exact lawful_answerClose h k
  · exact h

theorem lawful_raiseStall (h : s.Lawful) : s.raiseStall.Lawful := by
  unfold State.raiseStall
  split
  · refine lawful_raise ?_ Cause.noConfusion Cause.noConfusion (Nat.zero_le _)
    exact lawful_setLink h id h.queue h.ranges.threshold h.ranges.queues h.ranges.orders
  · exact h

theorem lawful_settle (h : s.Lawful) : s.settle.Lawful := by
  unfold State.settle
  split
  · exact h
  · exact foldl_keeps (P := State.Lawful) (f := State.expire)
      (fun _ k h => lawful_expireRun (lawful_expireAnswer h k) k) _ (lawful_raiseStall h)

end

/-! ### Settling leaves nothing to handle -/

/-- A timer of the channel has reached 0 and waits to be handled. -/
def Channel.due (c : Channel) : Bool := c.runDue || c.answerDue

section
variable {s : State} {k : Nat}

theorem State.calm_iff (s : State) :
    s.calm = true ↔ s.link.stallDue = false ∧ ∀ k, k < 32 → (s.channelAt k).due = false := by
  simp only [State.calm, Bool.and_eq_true, Bool.not_eq_true', List.all_eq_true, mem_allChannels, Channel.due,
    Bool.or_eq_false_iff]

theorem Channel.due_of_free {c : Channel} (h : c.state = .free) : c.due = false := by
  simp [Channel.due, Channel.runDue, Channel.answerDue, h]

theorem State.answerClose_channelAt (s : State) (k j : Nat) :
    (s.answerClose k).channelAt j
      = if k = j ∧ ((s.channelAt k).state = .ordered ∨ (s.channelAt k).state = .stopping
          ∨ (s.channelAt k).state = .aborting) then
          { s.channelAt k with state := .free, role := .none }
        else s.channelAt j := by
  unfold State.answerClose
  simp only
  split
  next hst => simp only [State.close_channelAt, hst]; simp
  next hst => simp only [State.close_channelAt, hst]; simp
  next hst =>
    have hraise (t : State) : (t.raise .linkStall 0).channelAt j = t.channelAt j := rfl
    split
    · simp only [hraise, State.closeVoid, State.close_channelAt, hst]; simp
    · simp only [State.closeVoid, State.close_channelAt, hst]; simp
  next h1 h2 h3 =>
    rw [if_neg]
    rintro ⟨-, hst | hst | hst⟩
    exacts [h1 hst, h2 hst, h3 hst]

theorem State.answerClose_stallDue (s : State) (k : Nat) :
    (s.answerClose k).link.stallDue = s.link.stallDue ∧ (s.answerClose k).answerTime = s.answerTime := by
  unfold State.answerClose
  simp only
  split
  · rw [State.close_frame]; exact ⟨rfl, rfl⟩
  · rw [State.close_frame]; exact ⟨rfl, rfl⟩
  · have hraise (t : State) : (t.raise .linkStall 0).link.stallDue = t.link.stallDue
        ∧ (t.raise .linkStall 0).answerTime = t.answerTime := ⟨rfl, rfl⟩
    split
    · obtain ⟨hdue, htime⟩ := hraise (s.closeVoid k)
      rw [hdue, htime, State.closeVoid, State.close_frame]; exact ⟨rfl, rfl⟩
    · rw [State.closeVoid, State.close_frame]; exact ⟨rfl, rfl⟩
  · exact ⟨rfl, rfl⟩

theorem Channel.answerDue_iff (c : Channel) :
    c.answerDue = true ↔ (c.state = .ordered ∨ c.state = .stopping ∨ c.state = .aborting) ∧ c.role = .answer
      ∧ c.target = 0 := by
  simp only [Channel.answerDue, Bool.and_eq_true, Bool.or_eq_true, beq_iff_eq]; tauto

theorem Channel.runDue_iff (c : Channel) : c.runDue = true ↔ c.state = .running ∧ c.role = .run ∧ c.target = 0 := by
  simp only [Channel.runDue, Bool.and_eq_true, beq_iff_eq]; tauto

theorem State.expireAnswer_channelAt (s : State) (k j : Nat) :
    (s.expireAnswer k).channelAt j
      = if k = j ∧ (s.channelAt k).answerDue = true then { s.channelAt k with state := .free, role := .none }
        else s.channelAt j := by
  unfold State.expireAnswer
  by_cases hdue : (s.channelAt k).answerDue = true
  · rw [if_pos hdue, State.answerClose_channelAt]
    simp only [((Channel.answerDue_iff _).mp hdue).1, hdue, and_true]
  · rw [if_neg hdue, if_neg fun hk => hdue hk.2]

theorem State.queueOrder_channelAt (s : State) (kind : OrderKind) (k j : Nat) :
    (s.queueOrder kind k).channelAt j = s.channelAt j := by
  rw [State.queueOrder_frame]; rfl

theorem State.expireRun_channelAt (s : State) (k j : Nat) :
    (s.expireRun k).channelAt j
      = if k = j ∧ (s.channelAt k).runDue = true then s.waiting (s.channelAt k) .stopping else s.channelAt j := by
  unfold State.expireRun
  by_cases hdue : (s.channelAt k).runDue = true
  · rw [if_pos hdue, State.queueOrder_channelAt, State.setChannel_channelAt]
    simp only [hdue, and_true]
  · rw [if_neg hdue, if_neg fun hk => hdue hk.2]

theorem State.expireRun_frame (s : State) (k : Nat) :
    s.expireRun k
      = { s with
          channels := (s.expireRun k).channels
          link := { s.link with
            dispatch := (s.expireRun k).link.dispatch, stallCount := (s.expireRun k).link.stallCount } } := by
  unfold State.expireRun
  split
  · rw [State.queueOrder_frame]; rfl
  · rfl

theorem State.expire_stallDue (s : State) (k : Nat) :
    (s.expire k).link.stallDue = s.link.stallDue ∧ (s.expire k).answerTime = s.answerTime := by
  have hanswer : (s.expireAnswer k).link.stallDue = s.link.stallDue ∧ (s.expireAnswer k).answerTime = s.answerTime := by
    unfold State.expireAnswer
    split
    · exact s.answerClose_stallDue k
    · exact ⟨rfl, rfl⟩
  unfold State.expire
  rw [State.expireRun_frame]
  exact hanswer

/-- A channel whose expiries are handled is not due, and no other channel is touched. -/
theorem State.expire_due (h : 0 < s.answerTime) (k j : Nat) :
    ((s.expire k).channelAt j).due = (if k = j then false else (s.channelAt j).due) := by
  unfold State.expire
  rw [State.expireRun_channelAt]
  have htime : (s.expireAnswer k).answerTime = s.answerTime := by
    unfold State.expireAnswer
    split
    · exact (s.answerClose_stallDue k).2
    · rfl
  by_cases hkj : k = j
  · subst hkj
    rw [if_pos rfl]
    by_cases hanswer : (s.channelAt k).answerDue = true
    · have hfree : ((s.expireAnswer k).channelAt k).state = .free := by
        rw [State.expireAnswer_channelAt, if_pos ⟨rfl, hanswer⟩]
      rw [if_neg fun hrun => by
        have hrunning := ((Channel.runDue_iff _).mp hrun.2).1
        rw [hfree] at hrunning
        cases hrunning]
      exact Channel.due_of_free hfree
    · have hsame : (s.expireAnswer k).channelAt k = s.channelAt k := by
        rw [State.expireAnswer_channelAt, if_neg fun hk => hanswer hk.2]
      rw [hsame]
      by_cases hrun : (s.channelAt k).runDue = true
      · rw [if_pos ⟨rfl, hrun⟩]
        have hnot : ((s.expireAnswer k).waiting (s.channelAt k) .stopping).target ≠ 0 := by
          show (s.expireAnswer k).answerTime ≠ 0
          omega
        rw [Channel.due, Bool.or_eq_false_iff, ← Bool.not_eq_true, ← Bool.not_eq_true, Channel.runDue_iff,
          Channel.answerDue_iff]
        exact ⟨fun hd => ChannelState.noConfusion hd.1, fun hd => hnot hd.2.2⟩
      · rw [if_neg fun hk => hrun hk.2, Channel.due, Bool.or_eq_false_iff]
        exact ⟨Bool.not_eq_true _ |>.mp hrun, Bool.not_eq_true _ |>.mp hanswer⟩
  · rw [if_neg fun hk => hkj hk.1, State.expireAnswer_channelAt, if_neg fun hk => hkj hk.1, if_neg hkj]

/-- After the expiries of the channels of a list, none of them is due. -/
theorem State.expireAll_due (h : 0 < s.answerTime) (l : List Nat) :
    (l.foldl State.expire s).link.stallDue = s.link.stallDue
      ∧ ∀ j, j ∈ l ∨ (s.channelAt j).due = false → ((l.foldl State.expire s).channelAt j).due = false := by
  induction l generalizing s with
  | nil => exact ⟨rfl, fun j hj => hj.resolve_left List.not_mem_nil⟩
  | cons k l ih =>
    obtain ⟨hstall, htime⟩ := s.expire_stallDue k
    obtain ⟨ihstall, ihdue⟩ := ih (s := s.expire k) (by rw [htime]; exact h)
    refine ⟨ihstall.trans hstall, fun j hj => ihdue j ?_⟩
    by_cases hjl : j ∈ l
    · exact .inl hjl
    · right
      rw [State.expire_due h]
      split
      · rfl
      next hkj =>
        refine hj.resolve_left fun hmem => ?_
        rcases List.mem_cons.mp hmem with he | hmem
        · exact hkj he.symm
        · exact hjl hmem

theorem State.raiseStall_stallDue (s : State) : s.raiseStall.link.stallDue = false := by
  unfold State.raiseStall
  split
  · rfl
  next hdue => exact Bool.not_eq_true _ |>.mp hdue

theorem State.settle_calm (h : 0 < s.answerTime) : s.settle.calm = true := by
  unfold State.settle
  split
  next hcalm => exact hcalm
  · have htime : s.raiseStall.answerTime = s.answerTime := by unfold State.raiseStall; split <;> rfl
    obtain ⟨hstall, hdue⟩ := State.expireAll_due (s := s.raiseStall) (by rw [htime]; exact h) allChannels
    exact (State.calm_iff _).mpr
      ⟨hstall.trans s.raiseStall_stallDue, fun k hk => hdue k (.inl (mem_allChannels.mpr hk))⟩

end

/-! ### Reports (R115, R140) -/

section
variable {s : State} {k : Nat}

theorem lawful_stale (h : s.Lawful) : s.stale.Lawful :=
  lawful_raise h Cause.noConfusion Cause.noConfusion (Nat.zero_le _)

theorem lawful_judgeReport (h : s.Lawful) (kind : ReportKind) (d : Nat) : (s.judgeReport k kind d).Lawful := by
  unfold State.judgeReport
  split
  next _ hst => exact lawful_startRun h hst
  next _ hst => exact lawful_close h (bound_of_state hst ChannelState.noConfusion) _ _
  next _ hst => exact lawful_close h (bound_of_state hst ChannelState.noConfusion) _ _
  next _ hst => exact lawful_close h (bound_of_state hst ChannelState.noConfusion) _ _
  next _ hst => exact lawful_close h (bound_of_state hst ChannelState.noConfusion) _ _
  next _ hst => exact lawful_close h (bound_of_state hst ChannelState.noConfusion) _ _
  next _ hst => exact lawful_close h (bound_of_state hst ChannelState.noConfusion) _ _
  next _ hst => exact lawful_close h (bound_of_state hst ChannelState.noConfusion) _ _
  · exact lawful_stale h

/-- The report queue written, no longer than it may be. -/
theorem lawful_setReports (h : s.Lawful) {l : List QueueWord} (hl : l.length ≤ 64) :
    ({ s with link := { s.link with reports := l } } : State).Lawful :=
  lawful_setLink h id h.queue h.ranges.threshold ⟨h.ranges.queues.1, hl⟩ h.ranges.orders

theorem lawful_takeReport (h : s.Lawful) : s.takeReport.Lawful := by
  unfold State.takeReport
  split
  · exact h
  next w rest hreports =>
    have hlen := h.ranges.queues.2
    rw [hreports, List.length_cons] at hlen
    have ht := lawful_setReports h (l := rest) (by omega)
    simp only
    split
    · unfold State.receiveReport
      split
      · split
        · exact lawful_judgeReport ht _ _
        · exact lawful_stale ht
      · exact lawful_stale ht
    · exact lawful_raise ht Cause.noConfusion Cause.noConfusion (Nat.zero_le _)

end

/-! ### The link's queues (R135, R136, R144) -/

section
variable {s : State}

theorem lawful_dropHead (h : s.Lawful) : s.dropHead.Lawful := by
  obtain ⟨hexist, hbound, hroom⟩ := h.queue
  refine lawful_setLink h id ⟨hexist, fun o ho => hbound o (List.mem_of_mem_tail ho), fun k => ?_⟩ h.ranges.threshold
    ⟨Nat.zero_le _, h.ranges.queues.2⟩ fun o ho => h.ranges.orders o (List.mem_of_mem_tail ho)
  exact ((List.tail_sublist _).countP_le).trans (hroom k)

theorem lawful_takeOrder (h : s.Lawful) : s.takeOrder.Lawful := by
  unfold State.takeOrder
  split
  · exact h
  · split
    · exact lawful_unread (lawful_dropHead h) rfl (lawful_dropHead h).canonical
    · exact h

theorem lawful_takeLoopback (h : s.Lawful) : s.takeLoopback.Lawful := by
  unfold State.takeLoopback
  split
  · exact h
  · split
    next hroom =>
      refine lawful_setReports (lawful_dropHead h) ?_
      rw [List.length_append, List.length_singleton]
      exact hroom.2.2
    · exact h

theorem lawful_writeReport (h : s.Lawful) (w : QueueWord) : (s.writeReport w).Lawful := by
  unfold State.writeReport
  split
  next hroom =>
    refine lawful_setReports h ?_
    rw [List.length_append, List.length_singleton]
    exact hroom.2.2
  · exact h

/-- The mailboxes are in no law. -/
theorem lawful_setBoxes (h : s.Lawful) (a : Option SegMap) (b : Option BoxWord) :
    ({ s with link := { s.link with haltBox := a, mainsBox := b } } : State).Lawful :=
  lawful_setLink h id h.queue h.ranges.threshold h.ranges.queues h.ranges.orders

theorem lawful_writeMains (h : s.Lawful) (w : BoxWord) : (s.writeMains w).Lawful := by
  unfold State.writeMains
  split
  · exact lawful_setBoxes h _ _
  · exact h

end

/-! ### Mains and the halt take (R147 to R149, R155) -/

section
variable {s : State}

theorem lawful_outageAt (h : s.Lawful) (g k : Nat) : (State.outageAt g s k).Lawful := by
  unfold State.outageAt
  split
  next hb => exact lawful_closeVoid h (Bool.and_eq_true_iff.mp hb).1
  · exact h

theorem lawful_outageEntry (h : s.Lawful) {g : Nat} (hg : g < 16) : (s.outageEntry g).Lawful := by
  have hentry : (s.mainsTransition g .absent (some s.now)).Lawful :=
    lawful_mainsTransition h hg (iff_of_true rfl rfl) (minuteInRange_some (now_le h))
  exact foldl_keeps (P := State.Lawful) (fun _ k h => lawful_outageAt h g k) _ hentry

theorem lawful_outageHold (h : s.Lawful) (g o i : Nat) : (s.outageHold g o i).Lawful := by
  unfold State.outageHold
  split
  next r hr =>
    split
    next hon =>
      obtain ⟨h1, h2, h3, h4, -, h6⟩ := h.ranges.records i r hr
      have hin : r.state.inTest = false := by rcases hon.2 with hst | hst <;> rw [hst] <;> rfl
      refine lawful_transition h hr ⟨rfl, rfl, rfl, rfl, rfl⟩ hin.symm
        (by simp [Record.HoldFits]) ⟨h1, h2, h3, h4, minuteInRange_some ?_, h6⟩
      have hnew := satAdd_le s.now (rechargeHold (s.figures r.cls)
        (dischargedAtRestore o s.now (s.figures r.cls).ratedDuration))
      unfold laterHold
      split
      next m hm => exact Nat.max_le.mpr ⟨(h.ranges.records i r hr).2.2.2.2.1 m hm, hnew⟩
      · exact hnew
    · exact h
  · exact h

theorem lawful_restore (h : s.Lawful) {g : Nat} (hg : g < 16) : (s.restore g).Lawful := by
  have hentry : (s.mainsTransition g .present none).Lawful :=
    lawful_mainsTransition h hg (iff_of_false Bool.false_ne_true Mains.noConfusion) minuteInRange_none
  exact foldl_keeps (P := State.Lawful) (fun _ e h => lawful_outageHold h _ _ e.1) _ hentry

theorem lawful_mainsAt (h : s.Lawful) (m : SegMap) {g : Nat} (hg : g < 16) : (State.mainsAt m s g).Lawful := by
  unfold State.mainsAt
  split
  · exact lawful_mainsTransition h hg (iff_of_false Bool.false_ne_true Mains.noConfusion) minuteInRange_none
  · exact lawful_outageEntry h hg
  · exact lawful_outageEntry h hg
  · exact lawful_restore h hg
  · exact h
  · exact h

theorem mem_allSegments {g : Nat} : g ∈ allSegments ↔ g < 16 := by simp [allSegments, Config.segmentCount]

theorem lawful_applyMains (h : s.Lawful) (m : SegMap) : (s.applyMains m).Lawful := by
  unfold State.applyMains
  exact List.foldlRecOn allSegments (State.mainsAt m) h fun t ht g hg => lawful_mainsAt ht m (mem_allSegments.mp hg)

theorem lawful_takeMains (h : s.Lawful) : s.takeMains.Lawful := by
  unfold State.takeMains
  split
  · exact h
  · have ht := lawful_setBoxes h s.link.haltBox none
    simp only
    split
    · exact lawful_applyMains ht _
    · exact lawful_raise ht Cause.noConfusion Cause.noConfusion (Nat.zero_le _)

theorem lawful_haltTakeAt (h : s.Lawful) (m : SegMap) (k : Nat) : (State.haltTakeAt m s k).Lawful := by
  unfold State.haltTakeAt
  split
  next ht => exact lawful_closeVoid h (bound_of_state ht.1 ChannelState.noConfusion)
  · exact h

theorem lawful_takeHalt (h : s.Lawful) : s.takeHalt.Lawful := by
  unfold State.takeHalt
  split
  · exact h
  · split
    · refine lawful_writeHaltWord (foldl_keeps (P := State.Lawful) (fun _ k h => lawful_haltTakeAt h _ k) _ ?_)
      have ht := lawful_setBoxes h none s.link.mainsBox
      exact lawful_unread ht rfl ht.canonical
    · exact h

end

end Sys2Proof.Machine

end

section
/-! PROOF. The laws of the whole part through the planner: visits, completions, trials and dispatches (chapter 05), and the
clock (chapter 02). -/

namespace Sys2Proof.Machine

/-! ### The checks of a trial (R101 to R103) -/

section
variable {s : State} {r : Record} {e : Candidate}

theorem State.isReady_iff (s : State) (i : Nat) :
    s.isReady i = true ↔ ∃ r, s.record? i = some r ∧ r.state = .ready := by
  unfold State.isReady
  cases s.record? i <;> simp

theorem State.recordChecks_dispatched (h : s.recordChecks r = .dispatched) :
    (s.segmentAt r.segment).active < (s.segmentAt r.segment).cap ∧ ∀ n ∈ r.neighbours, s.isReady n = true := by
  unfold State.recordChecks at h
  simp only at h
  split at h; · cases h
  split at h; · cases h
  next hactive =>
  split at h; · cases h
  split at h; · cases h
  next hready =>
  exact ⟨by simpa using hactive, by simpa using hready⟩

/-- A trial that dispatches has a FREE channel and a READY record with no hold, room on its segment, and neighbours that
are all READY. -/
theorem State.trialOutcome_dispatched (h : s.trialOutcome e = .dispatched) :
    ∃ k r, s.freeChannel? = some k ∧ s.record? e.index = some r ∧ r.state = .ready ∧ r.hold = none
      ∧ (s.segmentAt r.segment).active < (s.segmentAt r.segment).cap ∧ ∀ n ∈ r.neighbours, s.isReady n = true := by
  unfold State.trialOutcome at h
  split at h; · cases h
  split at h; · cases h
  next hchannel =>
  split at h
  next r hr =>
    split at h
    next hvalid =>
      obtain ⟨k, hk⟩ := Option.ne_none_iff_exists'.mp (by simpa using hchannel)
      simp only [State.revalidates, Bool.and_eq_true] at hvalid
      obtain ⟨hready, hhold, -⟩ := State.free_iff.mp hvalid.1.1
      obtain ⟨hactive, hneighbours⟩ := State.recordChecks_dispatched h
      exact ⟨k, r, hk, hr, hready, hhold, hactive, hneighbours⟩
    · cases h
  · cases h

theorem State.freeChannel?_some {k : Nat} (h : s.freeChannel? = some k) : k < 32 ∧ s.bound k = false := by
  have hmem := List.mem_of_find?_eq_some h
  have hfree := List.find?_some h
  exact ⟨mem_allChannels.mp hmem, by simpa using hfree⟩

/-- A trial never leaves an entry NOT_TRIED. -/
theorem State.trialOutcome_ne_notTried (s : State) (e : Candidate) : s.trialOutcome e ≠ .notTried := by
  unfold State.trialOutcome State.recordChecks
  simp only
  repeat' split
  all_goals exact TrialOutcome.noConfusion

end

/-! ### A dispatch (R66, R110) -/

section
variable {s : State} {k i : Nat} {kind : Kind} {r : Record}

/-- The context that a dispatch gives its channel (R110). -/
def State.boundContext (s : State) (k i : Nat) (kind : Kind) (r : Record) : Channel :=
  s.bindContext (s.channelAt k) i kind (runSecondsOf (s.figures r.cls) kind)

theorem State.dispatch_eq {e : Candidate} (hk : s.freeChannel? = some k) (hr : s.record? e.index = some r) :
    s.dispatch e = (s.bind k e.index e.kind r).dispatchMark e.index r := by
  unfold State.dispatch; rw [hk, hr]

theorem State.bind_channelAt (s : State) (k i : Nat) (kind : Kind) (r : Record) (j : Nat) :
    (s.bind k i kind r).channelAt j = if k = j then s.boundContext k i kind r else s.channelAt j := by
  unfold State.bind
  rw [State.queueOrder_channelAt, State.setChannel_channelAt]; rfl

theorem State.bind_dispatch (hr : s.record? i = some r) :
    (s.bind k i kind r).link.dispatch
      = s.link.dispatch
        ++ [{ kind := startOrder kind, channel := k, generation := ((s.channelAt k).generation + 1) % 16
              segment := r.segment, address := r.address }] := by
  have hthere : (s.setChannel k (s.boundContext k i kind r)).record?
      ((s.setChannel k (s.boundContext k i kind r)).channelAt k).index = some r := by
    rw [State.setChannel_channelAt_self]; exact hr
  refine (State.queueOrder_dispatch (startOrder kind) hthere).trans ?_
  rw [State.setChannel_channelAt_self]; rfl

theorem State.bind_stallCount (hr : s.record? i = some r) :
    (s.bind k i kind r).link.stallCount = if s.link.dispatch = [] then 0 else s.link.stallCount := by
  have hthere : (s.setChannel k (s.boundContext k i kind r)).record?
      ((s.setChannel k (s.boundContext k i kind r)).channelAt k).index = some r := by
    rw [State.setChannel_channelAt_self]; exact hr
  exact State.queueOrder_stallCount (startOrder kind) hthere

theorem State.bind_record? (s : State) (k i : Nat) (kind : Kind) (r : Record) (j : Nat) :
    (s.bind k i kind r).record? j = s.record? j := by rw [State.bind_frame]; rfl

theorem State.bind_segmentAt (s : State) (k i : Nat) (kind : Kind) (r : Record) (g : Nat) :
    (s.bind k i kind r).segmentAt g = s.segmentAt g := by rw [State.bind_frame]; rfl

/-- The state after the dispatch of record `r` of slot `i` on channel `k`. -/
def State.dispatched (s : State) (k i : Nat) (kind : Kind) (r : Record) : State :=
  (s.bind k i kind r).dispatchMark i r

theorem State.dispatched_frame (s : State) (k i : Nat) (kind : Kind) (r : Record) :
    s.dispatched k i kind r
      = { s with
          luminaires := (s.dispatched k i kind r).luminaires
          zones := (s.dispatched k i kind r).zones
          segments := (s.dispatched k i kind r).segments
          channels := (s.bind k i kind r).channels
          link :=
            { s.link with
              dispatch := (s.bind k i kind r).link.dispatch
              stallCount := (s.bind k i kind r).link.stallCount } } := by
  unfold State.dispatched
  rw [State.dispatchMark_frame, State.bind_frame]

theorem State.dispatched_channelAt (j : Nat) :
    (s.dispatched k i kind r).channelAt j = if k = j then s.boundContext k i kind r else s.channelAt j :=
  s.bind_channelAt k i kind r j

theorem State.dispatched_bound (j : Nat) : (s.dispatched k i kind r).bound j = (s.bound j || j == k) := by
  rw [State.bound, State.dispatched_channelAt]
  split
  next hkj => subst hkj; simp [State.boundContext, State.bindContext, State.waiting]
  next hkj => simp [State.bound, Ne.symm hkj]

theorem State.dispatched_record? (j : Nat) :
    (s.dispatched k i kind r).record? j = if i = j then some { r with state := .ordered } else s.record? j := by
  refine (State.transition_record? (s.bind k i kind r) i r { r with state := .ordered } j).trans ?_
  rw [State.bind_record?]

theorem State.dispatched_zoneAt (z : Nat) :
    (s.dispatched k i kind r).zoneAt z
      = if r.zone = z then (s.zoneAt z).recount r.state .ordered else s.zoneAt z := by
  refine (State.transition_zoneAt (s.bind k i kind r) i r { r with state := .ordered } z).trans ?_
  have hz : (s.bind k i kind r).zoneAt z = s.zoneAt z := by rw [State.bind_frame]; rfl
  rw [hz]

theorem State.dispatched_segmentAt (g : Nat) :
    (s.dispatched k i kind r).segmentAt g
      = if r.segment = g then { s.segmentAt g with active := (s.segmentAt g).active + 1 } else s.segmentAt g := by
  have hmark (g : Nat) : ((s.bind k i kind r).transition i r { r with state := .ordered }).segmentAt g = s.segmentAt g :=
    s.bind_segmentAt k i kind r g
  refine (State.setSegment_segmentAt ..).trans ?_
  rw [hmark, hmark]
  split
  next hg => rw [hg]
  · rfl

theorem bindingLaw_dispatched (h : s.BindingLaw) (hk : k < 32) (hfree : s.bound k = false)
    (hr : s.record? i = some r) (hready : r.state = .ready) : (s.dispatched k i kind r).BindingLaw := by
  obtain ⟨hexist, hbound, hone, htest, hactive⟩ := h
  have hother {j : Nat} (hj : j ≠ k) : (s.dispatched k i kind r).channelAt j = s.channelAt j := by
    rw [State.dispatched_channelAt, if_neg (Ne.symm hj)]
  have hself : (s.dispatched k i kind r).channelAt k = s.boundContext k i kind r := by
    rw [State.dispatched_channelAt, if_pos rfl]
  have hne {j : Nat} (hj : s.bound j = true) : j ≠ k := fun he => by rw [he, hfree] at hj; cases hj
  -- No channel is bound to the record that is READY.
  have hindex {j : Nat} (hj : s.bound j = true) : (s.channelAt j).index ≠ i := fun he => by
    obtain ⟨p, hp, hin⟩ := hbound j hj
    rw [he, hr] at hp
    cases hp
    rw [hready] at hin
    cases hin
  have hcases {j : Nat} (hj : (s.dispatched k i kind r).bound j = true) : s.bound j = true ∨ j = k := by
    rw [State.dispatched_bound, Bool.or_eq_true, beq_iff_eq] at hj; exact hj
  refine ⟨fun j hj => ?_, fun j hj => ?_, fun j m hj hm he => ?_, fun n q hq hin => ?_, fun g => ?_⟩
  · rw [hother (by omega)]; exact hexist j hj
  · rcases hcases hj with hj | rfl
    · obtain ⟨p, hp, hin⟩ := hbound j hj
      rw [hother (hne hj)]
      exact ⟨p, by rw [State.dispatched_record?, if_neg (Ne.symm (hindex hj)), hp], hin⟩
    · rw [hself]
      exact ⟨{ r with state := .ordered }, by rw [State.dispatched_record?]; exact if_pos rfl, rfl⟩
  · rcases hcases hj with hj | hjk <;> rcases hcases hm with hm | hmk
    · rw [hother (hne hj), hother (hne hm)] at he
      exact hone j m hj hm he
    · rw [hother (hne hj), hmk, hself] at he
      exact absurd he (hindex hj)
    · rw [hother (hne hm), hjk, hself] at he
      exact absurd he.symm (hindex hm)
    · rw [hjk, hmk]
  · rw [State.dispatched_record?] at hq
    split at hq
    next hin' => exact ⟨k, by rw [State.dispatched_bound]; simp, by rw [hself]; exact hin'⟩
    · obtain ⟨j, hj, hji⟩ := htest n q hq hin
      exact ⟨j, by rw [State.dispatched_bound, hj]; rfl, by rw [hother (hne hj)]; exact hji⟩
  · have hwithout : (allChannels.filter fun j =>
          ((s.dispatched k i kind r).bound j && (s.dispatched k i kind r).onSegment j g) && j != k)
        = allChannels.filter fun j => s.bound j && s.onSegment j g := by
      refine List.filter_congr fun j _ => ?_
      by_cases hjk : j = k
      · subst hjk; simp [hfree]
      · rw [State.dispatched_bound, beq_eq_false_iff_ne.mpr hjk, Bool.or_false, bne_iff_ne.mpr hjk, Bool.and_true]
        cases hj : s.bound j with
        | false => rfl
        | true =>
          simp only [State.onSegment, hother hjk, State.dispatched_record?, if_neg (Ne.symm (hindex hj))]
    have hcount := length_filter_without allChannels_nodup
      (p := fun j => (s.dispatched k i kind r).bound j && (s.dispatched k i kind r).onSegment j g)
      (mem_allChannels.mpr hk)
    have hon : ((s.dispatched k i kind r).bound k && (s.dispatched k i kind r).onSegment k g) = (r.segment == g) := by
      rw [State.dispatched_bound, beq_self_eq_true, Bool.or_true, Bool.true_and, State.onSegment, hself,
        State.dispatched_record?]
      have hi : i = (s.boundContext k i kind r).index := rfl
      rw [if_pos hi]
    simp only [hwithout, ← hactive g, hon] at hcount
    rw [State.dispatched_segmentAt]
    by_cases hg : r.segment = g
    · rw [if_pos (beq_iff_eq.mpr hg)] at hcount
      have hpos : 0 < (allChannels.filter fun j =>
          (s.dispatched k i kind r).bound j && (s.dispatched k i kind r).onSegment j g).length :=
        List.length_pos_of_mem (List.mem_filter.mpr ⟨mem_allChannels.mpr hk, hon.trans (beq_iff_eq.mpr hg)⟩)
      rw [if_pos hg]
      show (s.segmentAt g).active + 1 = _
      omega
    · rw [if_neg (by simpa using hg)] at hcount
      rw [if_neg hg]
      omega

theorem boundContext_generation (s : State) (k i : Nat) (kind : Kind) (r : Record) :
    (s.boundContext k i kind r).generation = ((s.channelAt k).generation + 1) % 16 := rfl

theorem queueLaw_dispatched (h : s.QueueLaw) (hk : k < 32) (hfree : s.bound k = false)
    (hr : s.record? i = some r) : (s.dispatched k i kind r).QueueLaw := by
  obtain ⟨hexist, hbound, hroom⟩ := h
  have horders : (s.dispatched k i kind r).link.dispatch = (s.bind k i kind r).link.dispatch := by
    rw [State.dispatched_frame]
  have hstate : (s.channelAt k).state = .free := by
    by_contra hne
    rw [(s.bound_iff k).mpr hne] at hfree
    cases hfree
  refine ⟨fun j hj => ?_, fun o ho => ?_, fun j => ?_⟩
  · rw [State.dispatched_channelAt, if_neg (by omega)]; exact hexist j hj
  · rw [horders, State.bind_dispatch hr] at ho
    rcases List.mem_append.mp ho with ho | ho
    · obtain ⟨hb, hg⟩ := hbound o ho
      have hok : k ≠ o.channel := fun he => by rw [← he, hfree] at hb; cases hb
      rw [State.dispatched_bound, hb, State.dispatched_channelAt, if_neg hok]
      exact ⟨rfl, hg⟩
    · cases List.mem_singleton.mp ho
      rw [State.dispatched_bound, State.dispatched_channelAt]
      simp [boundContext_generation]
  · rw [horders, State.bind_dispatch hr, List.countP_append, List.countP_singleton, State.dispatched_channelAt]
    by_cases hkj : k = j
    · subst hkj
      have hnone := hroom k
      rw [hstate] at hnone
      rw [if_pos rfl, if_pos (beq_self_eq_true k)]
      exact Nat.succ_le_succ hnone
    · rw [if_neg (by simpa using hkj), if_neg hkj]
      exact hroom j

theorem timerLaw_dispatched (h : s.TimerLaw) (hk : k < 32) : (s.dispatched k i kind r).TimerLaw := by
  obtain ⟨hexist, hlawful, hfigures⟩ := h
  refine ⟨fun j hj => ?_, fun j => ?_, fun c => ?_⟩
  · rw [State.dispatched_channelAt, if_neg (by omega)]; exact hexist j hj
  · rw [State.dispatched_channelAt]
    split
    · refine ⟨⟨rfl, rfl, rfl⟩, ?_⟩
      show runSecondsOf (s.figures r.cls) kind ≤ 14400
      obtain ⟨hrated, hlength⟩ := hfigures r.cls
      cases kind with
      | function => exact hlength.trans (by decide)
      | duration => exact (Nat.mul_le_mul_right 60 hrated).trans (by decide)
    · exact hlawful j
  · have hclasses : (s.dispatched k i kind r).figures c = s.figures c := by rw [State.dispatched_frame]; rfl
    rw [hclasses]; exact hfigures c

/-- A dispatch of a READY record with no hold, on a FREE channel, with room on its segment and all its neighbours READY,
keeps every law while the programme is RUNNING. -/
theorem lawful_dispatched (h : s.Lawful) (hrun : s.programme.state = .running) (hk : k < 32) (hfree : s.bound k = false)
    (hr : s.record? i = some r) (hready : r.state = .ready) (hhold : r.hold = none)
    (hactive : (s.segmentAt r.segment).active < (s.segmentAt r.segment).cap)
    (hneighbours : ∀ n ∈ r.neighbours, s.isReady n = true) : (s.dispatched k i kind r).Lawful := by
  have w := h.ranges
  have hframe := s.dispatched_frame k i kind r
  obtain ⟨-, -, hout, hresume⟩ := h.programme
  have hcanBind : (s.bind k i kind r).Canonical := canonical_queueOrder (canonical_setChannel h.canonical _ _) _ _
  have hregBind : (s.bind k i kind r).RegisterLaws :=
    registerLaws_congr (s := s) (by rw [State.bind_frame]) (by rw [State.bind_frame]) (by rw [State.bind_frame])
      (by rw [State.bind_frame]) h.register
  have hreg : (s.dispatched k i kind r).RegisterLaws := by
    refine registerLaws_congr (s := (s.bind k i kind r).transition i r { r with state := .ordered }) rfl rfl rfl rfl
      (registerLaws_transition hcanBind.1 hregBind ((s.bind_record? k i kind r i).trans hr)
        ⟨rfl, rfl, rfl, rfl, rfl⟩ (fun _ => .inr fun n hn p hp => ?_)
        ⟨RecordState.noConfusion, fun _ => hhold⟩)
    rw [State.bind_record?] at hp
    obtain ⟨p', hp', hst⟩ := (s.isReady_iff n).mp (hneighbours n hn)
    cases hp.symm.trans hp'
    rw [hst]; rfl
  have hcan : (s.dispatched k i kind r).Canonical :=
    canonical_setSegment (canonical_transition hcanBind _ _ _) _ _
  have hset : s.SameSettings (s.dispatched k i kind r) :=
    (State.SameSettings.of_eq (t := s.bind k i kind r) (by rw [State.bind_frame]) (by rw [State.bind_frame])).trans
      (State.transition_settings _ i r { r with state := .ordered })
  have hprogramme : (s.dispatched k i kind r).programme = s.programme := by rw [hframe]
  have hlink : (s.dispatched k i kind r).link = { s.link with
      dispatch := (s.bind k i kind r).link.dispatch, stallCount := (s.bind k i kind r).link.stallCount } := by
    rw [hframe]
  have hnot (p : ProgrammeState) (hp : p ≠ .running) : (s.dispatched k i kind r).programme.state ≠ p := by
    rw [hprogramme, hrun]; exact Ne.symm hp
  obtain ⟨hcanSegment, hcanAddress⟩ := (h.register.names i r hr).2
  exact
    { canonical := hcan
      register := hreg
      exceptions := exceptionLaw_congr (s := s) (by rw [hframe]) (by rw [hframe]) h.exceptions
      binding := bindingLaw_dispatched h.binding hk hfree hr hready
      timers := timerLaw_dispatched h.timers hk
      queue := queueLaw_dispatched h.queue hk hfree hr
      candidates := candidateLaw_congr (s := s) (by rw [hframe]) h.candidates
      programme :=
        ⟨fun hp => absurd hp (hnot _ ProgrammeState.noConfusion),
          fun hp => absurd hp (hnot _ ProgrammeState.noConfusion), fun hp => by
            rw [hprogramme] at hp
            rw [hframe]; exact hout hp,
          by rw [hprogramme]; exact hresume⟩
      mains := fun g => by
        rw [State.dispatched_segmentAt]
        split
        · exact h.mains g
        · exact h.mains g
      attention := attentionLaw_congr (s := s) (by rw [hframe]) (by rw [hframe]) h.attention
      port := portLaw_congr (s := s) (by rw [hframe]) h.port
      ranges :=
        { clock := by rw [hframe]; exact w.clock
          timing := by rw [hframe]; exact w.timing
          threshold := by rw [hlink]; exact w.threshold
          turnaround := by rw [hframe]; exact w.turnaround
          queues := by
            rw [hlink]
            refine ⟨?_, w.queues.2⟩
            show (s.bind k i kind r).link.stallCount ≤ 600
            rw [State.bind_stallCount hr]
            split
            · exact Nat.zero_le _
            · exact w.queues.1
          orders := by
            rw [hlink]
            show ∀ o ∈ (s.bind k i kind r).link.dispatch, o.InRange
            rw [State.bind_dispatch hr]
            intro o ho
            rcases List.mem_append.mp ho with ho | ho
            · exact w.orders o ho
            · cases List.mem_singleton.mp ho
              exact ⟨Nat.le_of_lt_succ hk, Nat.le_of_lt_succ (Nat.mod_lt _ (by decide)),
                Nat.le_of_lt_succ hcanSegment, Nat.le_of_lt_succ hcanAddress.1⟩
          causes := by rw [hframe]; exact w.causes
          classes := classes_inRange hset hcan.1 hreg.names hreg.classUsers w.classes
          zones := zones_inRange hset hcan.1 hreg.names hreg.zoneCounts w.zones
          segments := fun g => by
            rw [State.dispatched_segmentAt]
            obtain ⟨hlo, hhi, hact, hminute⟩ := w.segments g
            split
            next hg =>
              rw [hg] at hactive
              exact ⟨hlo, hhi, (Nat.succ_le_of_lt hactive).trans hhi, hminute⟩
            · exact ⟨hlo, hhi, hact, hminute⟩
          channels := fun j => by
            rw [State.dispatched_channelAt]
            split
            · have hrun := (timerLaw_dispatched (i := i) (kind := kind) (r := r) h.timers hk).2.1 k
              rw [State.dispatched_channelAt, if_pos rfl] at hrun
              have htime := w.timing.2
              exact ⟨Nat.le_of_lt_succ (h.register.names i r hr).1, Nat.le_of_lt_succ (Nat.mod_lt _ (by decide)), hrun.2,
                Nat.zero_le _, show s.answerTime ≤ 14400 by omega⟩
            · exact w.channels j
          records := fun j q hq => by
            rw [State.dispatched_record?] at hq
            split at hq
            · cases hq; exact w.records i r hr
            · exact w.records j q hq
          exceptions := by rw [hframe]; exact w.exceptions
          planner := by rw [hframe]; exact w.planner
          resumeMinute := by rw [hprogramme]; exact w.resumeMinute } }

end

end Sys2Proof.Machine

end

section
/-! PROOF. The candidate lists (R98) and the planner's steps: every law of the part through visits, completions and
trials. -/

namespace Sys2Proof.Machine

/-! ### The order of candidates (R98) -/

section
variable {a b c : Candidate} {l : List Candidate}

/-- Requested mark first, then the lower deadline, then the lower index. -/
theorem Candidate.before_iff :
    a.before b = true
      ↔ (a.requested = true ∧ b.requested = false) ∨ (a.requested = b.requested ∧ a.deadline < b.deadline)
        ∨ (a.requested = b.requested ∧ a.deadline = b.deadline ∧ a.index < b.index) := by
  unfold Candidate.before
  by_cases hr : a.requested = b.requested
  · by_cases hd : a.deadline = b.deadline
    · simp [hr, hd]
    · simp [hr, hd]
  · cases ha : a.requested <;> cases hb : b.requested <;> simp_all

theorem Candidate.before_trans (hab : a.before b = true) (hbc : b.before c = true) : a.before c = true := by
  rw [Candidate.before_iff] at *
  rcases hab with ⟨ha, hb⟩ | ⟨hr, hd⟩ | ⟨hr, hd, hi⟩
  · rcases hbc with ⟨hb', -⟩ | ⟨hr', -⟩ | ⟨hr', -⟩
    · rw [hb] at hb'; cases hb'
    · exact .inl ⟨ha, hr' ▸ hb⟩
    · exact .inl ⟨ha, hr' ▸ hb⟩
  · rcases hbc with ⟨hb', hc⟩ | ⟨hr', hd'⟩ | ⟨hr', hd', -⟩
    · exact .inl ⟨hr ▸ hb', hc⟩
    · exact .inr (.inl ⟨hr.trans hr', hd.trans hd'⟩)
    · exact .inr (.inl ⟨hr.trans hr', hd' ▸ hd⟩)
  · rcases hbc with ⟨hb', hc⟩ | ⟨hr', hd'⟩ | ⟨hr', hd', hi'⟩
    · exact .inl ⟨hr ▸ hb', hc⟩
    · exact .inr (.inl ⟨hr.trans hr', hd ▸ hd'⟩)
    · exact .inr (.inr ⟨hr.trans hr', hd.trans hd', hi.trans hi'⟩)

/-- Of two entries with different indices one stands before the other. -/
theorem Candidate.before_of_not (hne : a.index ≠ b.index) (h : ¬a.before b = true) : b.before a = true := by
  rw [Candidate.before_iff] at *
  cases ha : a.requested <;> cases hb : b.requested <;> simp only [ha, hb] at h ⊢ <;> simp at h ⊢ <;> omega

theorem placeCandidate_perm (c : Candidate) (l : List Candidate) : (placeCandidate c l).Perm (c :: l) := by
  induction l with
  | nil => exact .refl _
  | cons x l ih =>
    rw [placeCandidate]
    split
    · exact .refl _
    · exact (ih.cons x).trans (.swap c x l)

theorem placeCandidate_pairwise (hl : l.Pairwise fun a b => a.before b = true) (hc : c.index ∉ l.map (·.index)) :
    (placeCandidate c l).Pairwise fun a b => a.before b = true := by
  induction l with
  | nil => exact List.pairwise_singleton _ _
  | cons x l ih =>
    obtain ⟨hx, hl'⟩ := List.pairwise_cons.mp hl
    rw [List.map_cons, List.mem_cons, not_or] at hc
    rw [placeCandidate]
    split
    next hbefore =>
      exact List.pairwise_cons.mpr
        ⟨fun y hy => (List.mem_cons.mp hy).elim (fun h => h ▸ hbefore) fun hy => Candidate.before_trans hbefore (hx y hy), hl⟩
    next hbefore =>
      refine List.pairwise_cons.mpr ⟨fun y hy => ?_, ih hl' hc.2⟩
      rcases List.mem_cons.mp ((placeCandidate_perm c l).mem_iff.mp hy) with rfl | hy
      · exact Candidate.before_of_not hc.1 hbefore
      · exact hx y hy

theorem mem_joinWorking {x : Candidate} (h : x ∈ joinWorking c l) : x = c ∨ x ∈ l :=
  List.mem_cons.mp ((placeCandidate_perm c l).mem_iff.mp (List.mem_of_mem_take h))

theorem joinWorking_length (c : Candidate) (l : List Candidate) : (joinWorking c l).length = min 16 (l.length + 1) := by
  rw [joinWorking, List.length_take, (placeCandidate_perm c l).length_eq]; rfl

theorem candidateOrder_joinWorking (hl : CandidateOrder l) (hc : c.index ∉ l.map (·.index)) :
    CandidateOrder (joinWorking c l) := by
  obtain ⟨-, hnodup, hpairwise⟩ := hl
  refine ⟨(joinWorking_length c l).trans_le (Nat.min_le_left _ _), ?_, ?_⟩
  · have hall : ((placeCandidate c l).map (·.index)).Nodup :=
      ((placeCandidate_perm c l).map _).nodup_iff.mpr (List.nodup_cons.mpr ⟨hc, hnodup⟩)
    exact hall.sublist ((List.take_sublist _ _).map _)
  · exact (placeCandidate_pairwise hpairwise hc).sublist (List.take_sublist _ _)

/-- What a full list drops sorts after all that stay. -/
theorem before_dropped {x y : Candidate} (hl : CandidateOrder l) (hc : c.index ∉ l.map (·.index)) (hx : x = c ∨ x ∈ l)
    (hdropped : x ∉ joinWorking c l) (hy : y ∈ joinWorking c l) : y.before x = true := by
  have hall := placeCandidate_pairwise hl.2.2 hc
  have hx : x ∈ placeCandidate c l := (placeCandidate_perm c l).mem_iff.mpr (List.mem_cons.mpr hx)
  rw [← List.take_append_drop Config.candidateLimit (placeCandidate c l)] at hall hx
  exact (List.pairwise_append.mp hall).2.2 y hy x ((List.mem_append.mp hx).resolve_left hdropped)

end

/-! ### Visits and completions (R88 to R92) -/

section
variable {s : State} (h : s.Lawful)
include h

theorem lawful_startPass : s.startPass.Lawful := by
  obtain ⟨hcursor, -, -, hpublished, hscope, -⟩ := h.ranges.planner
  obtain ⟨-, hentries, -, -, htrial, htried⟩ := h.candidates
  exact lawful_setPlanner h
    ⟨⟨Nat.zero_le _, List.nodup_nil, .nil⟩, hentries, fun c hc => absurd hc List.not_mem_nil, Nat.le_refl 0, htrial,
      htried⟩
    rfl (Nat.zero_le _) (fun c hc => absurd hc List.not_mem_nil) hpublished hscope hscope

theorem lawful_advancePlanner : s.advancePlanner.Lawful := by
  unfold State.advancePlanner
  split
  · exact lawful_startPass h
  · exact h

end

/-- The planner after the completion of a pass (R91). -/
def State.completedPlanner (s : State) : Planner :=
  { s.planner with
    published := s.planner.working.map fun c => { entry := c, outcome := .notTried }
    publishedOverdue := s.planner.tally
    working := []
    mode := if s.planner.mode = .single then .off else s.planner.mode
    phase := if s.programme.state = .running then .dispatching else .idle
    trialPosition := 0 }

theorem State.completePass_eq (s : State) :
    s.completePass
      = if s.planner.mode = .single then
          (({ s with planner := s.completedPlanner } : State).setOverdue s.planner.tally).raiseProgramme
        else ({ s with planner := s.completedPlanner } : State).setOverdue s.planner.tally := rfl

theorem deadlineMinute_le (f : Figures) (r : Record) (k : Kind) : deadlineMinute f r k ≤ 4294967295 := satAdd_le _ _

section
variable {s : State} {i : Nat} {r : Record}

theorem State.entryFor_some {c : Candidate} (hc : s.entryFor i r = some c) :
    c.index = i ∧ c.deadline = deadlineMinute (s.figures r.cls) r c.kind := by
  unfold State.entryFor at hc
  split at hc
  · obtain ⟨k, -, rfl⟩ := Option.map_eq_some_iff.mp hc
    exact ⟨rfl, rfl⟩
  · cases hc

theorem State.nextVisit?_some (hnext : s.nextVisit? = some (i, r)) (hcan : Table.Rising s.luminaires) :
    s.record? i = some r ∧ s.planner.cursor ≤ i ∧ s.planner.passScope.includes r = true := by
  have hmem := List.mem_of_find?_eq_some hnext
  have hfound := List.find?_some hnext
  simp only [Bool.and_eq_true, decide_eq_true_iff] at hfound
  exact ⟨(Table.mem_iff_at? hcan i r).mp hmem, hfound⟩

theorem lawful_visitRecord (h : s.Lawful) (hr : s.record? i = some r) (hi : s.planner.cursor ≤ i) :
    (s.visitRecord i r).Lawful := by
  obtain ⟨hcursor, -, hworking, hpublished, hscope, hpass⟩ := h.ranges.planner
  obtain ⟨horder, hentries, hpassed, htally, htrial, htried⟩ := h.candidates
  have hslot : i < 4096 := (h.register.names i r hr).1
  have hmem {c : Candidate} (hc : c ∈ (s.visitRecord i r).planner.working) :
      c ∈ s.planner.working ∨ c.index = i ∧ c.InRange := by
    simp only [State.visitRecord] at hc
    split at hc
    next c' hentry =>
      obtain ⟨hindex, hdeadline⟩ := State.entryFor_some hentry
      rcases mem_joinWorking hc with rfl | hc
      · exact .inr ⟨hindex, by omega, hdeadline ▸ deadlineMinute_le _ _ _⟩
      · exact .inl hc
    · exact .inl hc
  have hnew : CandidateOrder (s.visitRecord i r).planner.working := by
    simp only [State.visitRecord]
    split
    next c hentry =>
      refine candidateOrder_joinWorking horder fun hin => ?_
      obtain ⟨x, hx, hindex⟩ := List.mem_map.mp hin
      have := hpassed x hx
      have := (State.entryFor_some hentry).1
      omega
    · exact horder
  refine lawful_setPlanner h ⟨hnew, hentries, fun c hc => ?_, ?_, htrial, htried⟩ rfl hslot (fun c hc => ?_) hpublished
    hscope hpass
  · show c.index < i + 1
    rcases hmem hc with hc | ⟨hc, -⟩
    · have := hpassed c hc
      omega
    · omega
  · show s.planner.tally + (if s.overdueRecord r then 1 else 0) ≤ i + 1
    split <;> omega
  · exact (hmem hc).elim (hworking c) And.right

end

section
variable {s : State} (h : s.Lawful)
include h

theorem lawful_visitNext : s.visitNext.Lawful := by
  unfold State.visitNext
  split
  · split
    next i r hnext =>
      obtain ⟨hr, hi, -⟩ := State.nextVisit?_some hnext h.canonical.1
      exact lawful_visitRecord h hr hi
    · exact h
  · exact h

/-- The planner of a completed pass and OVERDUE, written together (R91, R180). -/
theorem lawful_publish {p : Planner} (hworking : p.working = []) (htrial : p.trialPosition = 0)
    (hpublished : p.published = s.planner.working.map fun c => { entry := c, outcome := .notTried })
    (hcount : p.publishedOverdue = s.planner.tally) (htally : p.tally = s.planner.tally)
    (hcursor : p.cursor = s.planner.cursor) (hscope : p.scope = s.planner.scope)
    (hpass : p.passScope = s.planner.passScope) :
    (({ s with planner := p } : State).setOverdue s.planner.tally).Lawful := by
  obtain ⟨hcursorLe, -, hrange, -, hscopeIn, hpassIn⟩ := h.ranges.planner
  obtain ⟨horder, -, -, htallyLe, -, -⟩ := h.candidates
  obtain ⟨hcarried, hpending, -, -⟩ := h.attention
  have hentries : p.published.map (·.entry) = s.planner.working := by
    rw [hpublished, List.map_map]; exact List.map_id _
  have hcause (c : Cause) : (({ s with planner := p } : State).setOverdue s.planner.tally).causeAt c
      = if .overdue = c then
          { s.causeAt .overdue with pending := decide (0 < s.planner.tally), carried := s.planner.tally }
        else s.causeAt c := State.setCause_causeAt ..
  have hcan : (({ s with planner := p } : State).setOverdue s.planner.tally).Canonical :=
    canonical_setCause (s := { s with planner := p }) h.canonical _ _
  refine lawful_of_outer h rfl rfl rfl rfl rfl rfl hcan
    { h.outer with
      candidates := ⟨?_, ?_, fun c hc => ?_, ?_, ?_, fun n e he => ?_⟩
      attention := ⟨?_, ?_, ?_, ?_⟩
      causes := fun c => ?_
      planner := ⟨?_, ?_, fun c hc => ?_, fun e he => ?_, ?_, ?_⟩ }
  · show CandidateOrder p.working
    rw [hworking]; exact ⟨Nat.zero_le _, List.nodup_nil, .nil⟩
  · show CandidateOrder (p.published.map (·.entry))
    rw [hentries]; exact horder
  · have hc : c ∈ p.working := hc
    rw [hworking] at hc; exact absurd hc List.not_mem_nil
  · show p.tally ≤ p.cursor
    omega
  · show p.trialPosition ≤ p.published.length
    omega
  · have he : p.published[n]? = some e := he
    rw [hpublished] at he
    obtain ⟨c, -, rfl⟩ := List.mem_map.mp (List.mem_of_getElem? he)
    exact ⟨fun _ => show p.trialPosition ≤ n by omega, fun _ => rfl⟩
  · rw [hcause]; exact hcarried
  · rw [hcause]; exact hpending
  · rw [hcause]; exact hcount.symm
  · rw [hcause]
    show decide (0 < s.planner.tally) = true ↔ 0 < p.publishedOverdue
    rw [hcount, decide_eq_true_iff]
  · rw [hcause]
    split
    · exact ⟨(h.ranges.causes .overdue).1, show s.planner.tally ≤ 65535 by omega⟩
    · exact h.ranges.causes c
  · show p.cursor ≤ 4096
    omega
  · show p.publishedOverdue ≤ 4096
    omega
  · have hc : c ∈ p.working := hc
    rw [hworking] at hc; exact absurd hc List.not_mem_nil
  · have he : e ∈ p.published := he
    rw [hpublished] at he
    obtain ⟨c, hc, rfl⟩ := List.mem_map.mp he
    exact hrange c hc
  · exact hscope ▸ hscopeIn
  · exact hpass ▸ hpassIn

theorem lawful_completePass : s.completePass.Lawful := by
  have hpublished : (({ s with planner := s.completedPlanner } : State).setOverdue s.planner.tally).Lawful :=
    lawful_publish h rfl rfl rfl rfl rfl rfl rfl rfl
  rw [State.completePass_eq]
  split
  · exact lawful_raiseProgramme hpublished
  · exact hpublished

theorem lawful_finishPass : s.finishPass.Lawful := by
  unfold State.finishPass
  split
  · exact lawful_completePass h
  · exact h

/-! ### Trials (R100 to R106) -/

/-- The planner written in nothing but its mode, phase and scope. -/
theorem lawful_setCourse {p : Planner} (hp : p = { s.planner with mode := p.mode, phase := p.phase, scope := p.scope })
    (hscope : p.scope.inRange = true) : ({ s with planner := p } : State).Lawful := by
  obtain ⟨hcursor, -, hworking, hpublished, -, hpass⟩ := h.ranges.planner
  obtain ⟨mode, phase, scope, hp⟩ : ∃ m f sc, p = { s.planner with mode := m, phase := f, scope := sc } := ⟨_, _, _, hp⟩
  subst hp
  exact lawful_setPlanner h h.candidates rfl hcursor hworking hpublished hscope hpass

theorem lawful_endPhase : s.endPhase.Lawful :=
  lawful_setCourse h rfl h.ranges.planner.2.2.2.2.1

theorem lawful_recordTrial {e : PublishedEntry} {o : TrialOutcome}
    (he : s.planner.published[s.planner.trialPosition]? = some e) (ho : o ≠ .notTried) :
    (s.recordTrial s.planner.trialPosition e o).Lawful := by
  obtain ⟨hcursor, -, hworking, hpublished, hscope, hpass⟩ := h.ranges.planner
  obtain ⟨horder, hentries, hpassed, htally, htrial, htried⟩ := h.candidates
  obtain ⟨hlt, hget⟩ := List.getElem?_eq_some_iff.mp he
  have hsame : (s.planner.published.set s.planner.trialPosition { e with outcome := o }).map (·.entry)
      = s.planner.published.map (·.entry) := by
    refine List.ext_getElem? fun n => ?_
    rw [List.getElem?_map, List.getElem?_map, List.getElem?_set]
    split
    next hn => subst hn; rw [he]; rfl
    · rfl
  refine lawful_setPlanner h ⟨horder, ?_, hpassed, htally, ?_, fun n x hx => ?_⟩ rfl hcursor hworking (fun x hx => ?_)
    hscope hpass
  · exact hsame ▸ hentries
  · show s.planner.trialPosition + 1 ≤ (s.planner.published.set s.planner.trialPosition _).length
    rw [List.length_set]; exact hlt
  · have hx : (s.planner.published.set s.planner.trialPosition { e with outcome := o })[n]? = some x := hx
    rw [List.getElem?_set] at hx
    show x.outcome = .notTried ↔ s.planner.trialPosition + 1 ≤ n
    split at hx
    next hn =>
      cases hx
      exact ⟨fun hnot => absurd hnot ho, fun hle => by omega⟩
    next hn =>
      rw [htried n x hx]
      omega
  · rcases List.mem_or_eq_of_mem_set hx with hx | rfl
    · exact hpublished x hx
    · exact hpublished e (hget ▸ List.getElem_mem hlt)

theorem lawful_tryEntry {e : PublishedEntry} (hrun : s.programme.state = .running)
    (he : s.planner.published[s.planner.trialPosition]? = some e) : (s.tryEntry e).Lawful := by
  unfold State.tryEntry
  have hne := s.trialOutcome_ne_notTried e.entry
  simp only
  split
  next hall =>
    obtain ⟨k, r, hk, hr, hready, hhold, hactive, hneighbours⟩ := State.trialOutcome_dispatched hall
    obtain ⟨hk32, hfree⟩ := State.freeChannel?_some hk
    rw [State.dispatch_eq hk hr]
    have hplanner : (s.dispatched k e.entry.index e.entry.kind r).planner = s.planner := by
      rw [State.dispatched_frame]
    have hlawful :=
      lawful_recordTrial (lawful_dispatched (kind := e.entry.kind) h hrun hk32 hfree hr hready hhold hactive hneighbours)
        (by rw [hplanner]; exact he) hne
    rw [hplanner] at hlawful
    exact hlawful
  · exact lawful_recordTrial h he hne

theorem lawful_runTrial : s.runTrial.Lawful := by
  unfold State.runTrial
  split
  · split
    next hrun =>
      split
      next e he => exact lawful_tryEntry h hrun he
      · exact lawful_endPhase h
    · exact lawful_endPhase h
  · exact h

end

end Sys2Proof.Machine

open Sys2Proof.Machine

/-- Settles O26: the placing of an entry is a permutation that keeps the order, and what the list keeps is its front. -/
theorem workingList : Obligations.WorkingList := fun c l hl hc =>
  ⟨candidateOrder_joinWorking hl hc, joinWorking_length c l, fun _ => mem_joinWorking,
    fun _ hx hdropped _ hy => before_dropped hl hc hx hdropped hy, fun _ _ _ => Candidate.before_iff⟩

end

section
/-! PROOF. Every law of the part through the clock advance and the second tick (R27, R28, R112, R138), and through the
commands of the clock and the calendars. -/

namespace Sys2Proof.Machine

/-! ### Hold release (R69) -/

section
variable {s : State} {r : Record}

theorem Record.released_samePlace (r : Record) : r.SamePlace r.released := ⟨rfl, rfl, rfl, rfl, rfl⟩

theorem Record.released_inTest (r : Record) : r.released.state.inTest = r.state.inTest := by
  unfold Record.released
  cases r.state <;> rfl

theorem Record.released_holdFits (r : Record) : r.released.HoldFits := by
  refine ⟨fun hstate => ?_, fun _ => rfl⟩
  unfold Record.released at hstate
  simp only at hstate
  split at hstate
  · cases hstate
  next hne => exact absurd hstate hne

theorem lawful_releaseHold (h : s.Lawful) (v i : Nat) : (s.releaseHold v i).Lawful := by
  unfold State.releaseHold
  split
  next r hr =>
    obtain ⟨hanswer, henrol, hfunction, hduration, -, hlast⟩ := h.ranges.records i r hr
    split
    · exact lawful_transition h hr r.released_samePlace r.released_inTest r.released_holdFits
        ⟨hanswer, henrol, hfunction, hduration, minuteInRange_none, hlast⟩
    · exact h
  · exact h

theorem lawful_releaseHolds (h : s.Lawful) (v : Nat) : (s.releaseHolds v).Lawful := by
  unfold State.releaseHolds
  exact foldl_keeps (P := State.Lawful) (fun _ (e : Nat × Record) h => lawful_releaseHold h v e.1) _ h

/-- What the holds do is the same under any clock: releasing takes the advance's value, not the clock's. -/
theorem State.releaseHold_clock (s : State) (c : Clock) (v i : Nat) :
    ({ s with clock := c } : State).releaseHold v i = { s.releaseHold v i with clock := c } := by
  have hread : ({ s with clock := c } : State).record? i = s.record? i := rfl
  unfold State.releaseHold
  rw [hread]
  cases s.record? i with
  | none => rfl
  | some r =>
    simp only
    split <;> rfl

theorem State.releaseHolds_clock (s : State) (c : Clock) (v : Nat) :
    ({ s with clock := c } : State).releaseHolds v = { s.releaseHolds v with clock := c } := by
  have hfold (l : Table Record) (s : State) :
      l.foldl (fun acc e => acc.releaseHold v e.1) { s with clock := c }
        = { l.foldl (fun acc e => acc.releaseHold v e.1) s with clock := c } := by
    induction l generalizing s with
    | nil => rfl
    | cons e l ih =>
      rw [List.foldl_cons, List.foldl_cons, State.releaseHold_clock]
      exact ih _
  exact hfold s.luminaires s

theorem State.releaseHold_frame (s : State) (v i : Nat) :
    s.releaseHold v i
      = { s with luminaires := (s.releaseHold v i).luminaires, zones := (s.releaseHold v i).zones } := by
  unfold State.releaseHold
  split
  · split
    · exact s.transition_frame _ _ _
    · rfl
  · rfl

theorem State.releaseHolds_frame (s : State) (v : Nat) :
    s.releaseHolds v = { s with luminaires := (s.releaseHolds v).luminaires, zones := (s.releaseHolds v).zones } := by
  unfold State.releaseHolds
  refine foldl_keeps (P := fun t => t = { s with luminaires := t.luminaires, zones := t.zones })
    (fun t (e : Nat × Record) ht => ?_) s.luminaires rfl
  rw [State.releaseHold_frame, ht]

end

/-! ### The clock advance (R28) -/

section
variable {s : State} (h : s.Lawful)
include h

theorem lawful_timedResume (v : Nat) : (s.timedResume v).Lawful := by
  unfold State.timedResume
  split
  · split
    next hdue =>
      obtain ⟨-, -, hout, -⟩ := h.programme
      refine lawful_raiseProgramme (lawful_setProgramme h
        ⟨ProgrammeState.noConfusion, ProgrammeState.noConfusion, fun _ => hout ?_, Bool.noConfusion⟩ minuteInRange_none)
      rw [hdue.1]; exact ProgrammeState.noConfusion
    · exact h
  · exact h

/-- The exceptions that an advance to `v` leaves, with the clock at `v`. -/
theorem lawful_expire {c : Clock} (hset : s.clock.isSet = true → c.isSet = true)
    (hclock : c.value ≤ 4294967295 ∧ c.seconds ≤ 59) :
    (({ s with clock := c } : State).expireExceptions c.value).Lawful := by
  obtain ⟨hsorted, hnodup, hlength, hstart, -⟩ := h.exceptions
  have hsub : (s.exceptions.filter fun e => decide (c.value < e.stop)).Sublist s.exceptions := List.filter_sublist
  refine lawful_setClock h ⟨hsorted.sublist hsub, hnodup.sublist hsub, hsub.length_le.trans hlength,
    fun e he => hstart e (hsub.subset he), fun _ e he => ?_⟩ hset hclock fun e he => h.ranges.exceptions e (hsub.subset he)
  exact of_decide_eq_true (List.mem_filter.mp he).2

/-- The clock written and the one advance that follows (R28): the holds are released before the clock is looked at. -/
theorem lawful_clockAdvance {c : Clock} (hset : s.clock.isSet = true → c.isSet = true)
    (hclock : c.value ≤ 4294967295 ∧ c.seconds ≤ 59) : (({ s with clock := c } : State).clockAdvance c.value).Lawful := by
  unfold State.clockAdvance
  rw [State.releaseHolds_clock]
  have hkept : (s.releaseHolds c.value).clock = s.clock := by rw [State.releaseHolds_frame]
  exact lawful_timedResume (lawful_advancePlanner
    (lawful_expire (lawful_releaseHolds h c.value) (by rw [hkept]; exact hset) hclock)) _

theorem lawful_tickClock : s.tickClock.Lawful := by
  obtain ⟨hvalue, hseconds⟩ := h.ranges.clock
  unfold State.tickClock
  split
  next hset =>
    split
    · exact lawful_clockAdvance h (c := { s.clock with seconds := 0, value := satAdd s.clock.value 1 }) id
        ⟨satAdd_le _ _, Nat.zero_le _⟩
    next hlt => exact lawful_setClock h h.exceptions id ⟨hvalue, show s.clock.seconds + 1 ≤ 59 by omega⟩ h.ranges.exceptions
  · exact h

/-! ### The second tick at the channels and the link (R112, R138) -/

end

section
variable {s : State} {c : Channel}

theorem Channel.ticked_free (h : c.state = .free) : c.ticked = c := if_pos h

theorem Channel.ticked_bound (h : c.state ≠ .free) :
    c.ticked
      = { c with
          elapsed := if c.started = true then min 65535 (c.elapsed + 1) else c.elapsed
          target := if c.role = .none then c.target else c.target - 1 } := if_neg h

theorem Channel.ticked_state (c : Channel) : c.ticked.state = c.state := by
  unfold Channel.ticked; split <;> rfl

theorem Channel.ticked_index (c : Channel) : c.ticked.index = c.index := by
  unfold Channel.ticked; split <;> rfl

theorem Channel.ticked_generation (c : Channel) : c.ticked.generation = c.generation := by
  unfold Channel.ticked; split <;> rfl

/-- A lawful channel with nothing due is lawful after a tick: a run timer above 0 gives elapsed what it loses. -/
theorem Channel.ticked_lawful (h : c.Lawful) (hrun : c.runSeconds ≤ 14400) (hdue : c.due = false) : c.ticked.Lawful := by
  obtain ⟨st, index, kind, gen, started, run, elapsed, role, target, path⟩ := c
  simp only at hrun
  cases st with
  | free => exact h
  | ordered =>
    obtain ⟨rfl, rfl, rfl⟩ := h
    exact ⟨rfl, rfl, rfl⟩
  | running =>
    obtain ⟨rfl, rfl, hsum⟩ := h
    have htarget : target ≠ 0 := fun hz => by subst hz; cases hdue
    refine ⟨rfl, rfl, ?_⟩
    show min 65535 (elapsed + 1) + (target - 1) = run
    simp only at hsum
    omega
  | stopping =>
    obtain ⟨rfl, rfl, hle⟩ := h
    refine ⟨rfl, rfl, ?_⟩
    show run ≤ min 65535 (elapsed + 1)
    simp only at hle
    omega
  | aborting => exact h

theorem Channel.ticked_inRange (h : c.InRange) : c.ticked.InRange := by
  obtain ⟨hindex, hgeneration, hrun, helapsed, htarget⟩ := h
  unfold Channel.ticked
  split
  · exact ⟨hindex, hgeneration, hrun, helapsed, htarget⟩
  · refine ⟨hindex, hgeneration, hrun, ?_, ?_⟩
    · dsimp only; split <;> omega
    · dsimp only; split <;> omega

theorem State.tickChannels_channelAt (hcan : Table.Rising s.channels) (k : Nat) :
    s.tickChannels.channelAt k = (s.channelAt k).ticked := Table.atD_mapD rfl hcan k

theorem lawful_tickChannels (h : s.Lawful) (hdue : ∀ k, k < 32 → (s.channelAt k).due = false) :
    s.tickChannels.Lawful := by
  obtain ⟨-, -, -, -, -, hcanChannels, -⟩ := h.canonical
  have hread := State.tickChannels_channelAt hcanChannels.1
  obtain ⟨hexist, hlawful, -⟩ := h.timers
  have hnone (k : Nat) : (s.channelAt k).due = false := by
    by_cases hk : k < 32
    · exact hdue k hk
    · rw [hexist k (by omega)]; rfl
  refine lawful_setChannels h rfl (canonical_tickChannels h.canonical) (fun k hk => ?_) (fun k => ?_) (fun k _ => ?_)
    (fun k _ => ?_) (fun k => ?_) fun k => ?_
  · rw [hread, hexist k hk]; rfl
  · rw [State.bound, hread, Channel.ticked_state]; rfl
  · rw [hread, Channel.ticked_index]
  · rw [hread, Channel.ticked_generation]
  · rw [hread]
    exact ⟨Channel.ticked_lawful (hlawful k).1 (hlawful k).2 (hnone k), Channel.ticked_inRange (h.ranges.channels k)⟩
  · rw [hread, Channel.ticked_state]; exact h.queue.2.2 k

theorem lawful_tickLink (h : s.Lawful) : s.tickLink.Lawful := by
  obtain ⟨hstall, hreports⟩ := h.ranges.queues
  unfold State.tickLink
  split
  · exact lawful_setLink h id h.queue h.ranges.threshold ⟨Nat.min_le_left _ _, hreports⟩ h.ranges.orders
  · exact h

theorem State.timedResume_channels (s : State) (v : Nat) : (s.timedResume v).channels = s.channels := by
  unfold State.timedResume
  split
  · split <;> rfl
  · rfl

theorem State.advancePlanner_channels (s : State) : s.advancePlanner.channels = s.channels := by
  unfold State.advancePlanner
  split <;> rfl

theorem State.clockAdvance_channels (s : State) (v : Nat) : (s.clockAdvance v).channels = s.channels := by
  unfold State.clockAdvance
  rw [State.timedResume_channels, State.advancePlanner_channels]
  show (s.releaseHolds v).channels = s.channels
  rw [State.releaseHolds_frame]

theorem State.tickClock_channels (s : State) : s.tickClock.channels = s.channels := by
  unfold State.tickClock State.setValue
  split
  · split
    · rw [State.clockAdvance_channels]
    · rfl
  · rfl

/-- A tick of a calm part keeps every law: no run timer stands at 0 when it comes. -/
theorem lawful_tick (h : s.Lawful) (hcalm : s.calm = true) : s.tick.Lawful := by
  refine lawful_tickLink (lawful_tickChannels (lawful_tickClock h) fun k hk => ?_)
  rw [State.channelAt_congr s.tickClock_channels]
  exact (s.calm_iff.mp hcalm).2 k hk

/-! ### SET CLOCK, TRIM CLOCK and the calendars -/

theorem lawful_setClockEffect (h : s.Lawful) (minute : Word) : (setClockEffect minute s).1.Lawful := by
  unfold setClockEffect
  split
  · exact h
  · exact lawful_clockAdvance h (c := { value := minute.toNat, isSet := true, seconds := 0 }) (fun _ => rfl)
      ⟨Nat.le_of_lt_succ minute.isLt, Nat.zero_le _⟩

theorem moveMinute_le (v : Nat) (a : Int) : moveMinute v a ≤ 4294967295 := Nat.min_le_right _ _

theorem lawful_trimClockEffect (h : s.Lawful) (amount : Byte) : (trimClockEffect amount s).1.Lawful := by
  unfold trimClockEffect
  simp only
  split
  · exact h
  · split
    · exact h
    · exact lawful_clockAdvance h
        (c := { s.clock with value := moveMinute s.clock.value (trimAmount amount) }) id
        ⟨moveMinute_le _ _, h.ranges.clock.2⟩

theorem lawful_writeProfileEffect (h : s.Lawful) (profile : Byte) (slots : Slots) :
    (writeProfileEffect profile slots s).1.Lawful := by
  unfold writeProfileEffect
  split
  · exact h
  · exact lawful_unread h rfl (canonical_setProfile h.canonical _ _)

theorem placeException_perm (e : CalendarException) (l : List CalendarException) : (placeException e l).Perm (e :: l) := by
  induction l with
  | nil => exact .refl _
  | cons x l ih =>
    rw [placeException]
    split
    · exact (ih.cons x).trans (.swap e x l)
    · exact .refl _

theorem placeException_sorted {e : CalendarException} {l : List CalendarException}
    (h : l.Pairwise fun a b => a.start ≤ b.start) : (placeException e l).Pairwise fun a b => a.start ≤ b.start := by
  induction l with
  | nil => exact List.pairwise_singleton _ _
  | cons x l ih =>
    obtain ⟨hx, hl⟩ := List.pairwise_cons.mp h
    rw [placeException]
    split
    next hle =>
      refine List.pairwise_cons.mpr ⟨fun y hy => ?_, ih hl⟩
      rcases List.mem_cons.mp ((placeException_perm e l).mem_iff.mp hy) with rfl | hy
      · exact hle
      · exact hx y hy
    next hgt =>
      refine List.pairwise_cons.mpr ⟨fun y hy => ?_, h⟩
      rcases List.mem_cons.mp hy with rfl | hy
      · omega
      · have := hx y hy
        omega

/-- The entry that an exception command's codes and index spell has the command's minutes, and an index in range. -/
theorem exceptionOf_some {start stop : Word} {scope index effect : Byte} {e : CalendarException}
    (he : exceptionOf start stop scope index effect = some e) :
    e.start = start.toNat ∧ e.stop = stop.toNat ∧ e.InRange := by
  unfold exceptionOf at he
  split at he
  next sc o hscope _ =>
    cases he
    refine ⟨rfl, rfl, Nat.le_of_lt_succ start.isLt, Nat.le_of_lt_succ stop.isLt, ?_⟩
    show sc.inRange = true
    have hindex := index.isLt
    unfold exceptionScopeOf at hscope
    split at hscope
    · cases hscope; rfl
    · split at hscope
      next hlt => cases hscope; exact decide_eq_true (Nat.le_of_lt_succ hlt)
      · cases hscope
    · cases hscope; exact decide_eq_true (Nat.le_of_lt_succ hindex)
    · cases hscope
  · cases he

theorem lawful_addExceptionEffect (h : s.Lawful) (start stop : Word) (scope index effect : Byte) :
    (addExceptionEffect start stop scope index effect s).1.Lawful := by
  unfold addExceptionEffect
  split
  · exact h
  next e he =>
    obtain ⟨-, -, hrange⟩ := exceptionOf_some he
    obtain ⟨hsorted, hnodup, hlength, hstart, hlater⟩ := h.exceptions
    split; · exact h
    next hless =>
    split; · exact h
    next hnew =>
    split; · exact h
    next hroom =>
    split; · exact h
    next hafter =>
    have hperm := placeException_perm e s.exceptions
    have hmem {x : CalendarException} (hx : x ∈ placeException e s.exceptions) : x = e ∨ x ∈ s.exceptions :=
      List.mem_cons.mp (hperm.mem_iff.mp hx)
    refine lawful_setClock h ⟨placeException_sorted hsorted, hperm.nodup_iff.mpr (List.nodup_cons.mpr ⟨hnew, hnodup⟩), ?_,
      fun x hx => ?_, fun hset x hx => ?_⟩ id h.ranges.clock fun x hx => ?_
    · rw [hperm.length_eq]
      show s.exceptions.length + 1 ≤ 64
      exact Nat.lt_of_not_le hroom
    · rcases hmem hx with rfl | hx
      · omega
      · exact hstart x hx
    · rcases hmem hx with rfl | hx
      · exact Nat.lt_of_not_le fun hle => hafter ⟨hset, hle⟩
      · exact hlater hset x hx
    · rcases hmem hx with rfl | hx
      · exact hrange
      · exact h.ranges.exceptions x hx

theorem lawful_dropExceptionEffect (h : s.Lawful) (start stop : Word) (scope index effect : Byte) :
    (dropExceptionEffect start stop scope index effect s).1.Lawful := by
  unfold dropExceptionEffect
  split
  · exact h
  next e _ =>
    split
    · obtain ⟨hsorted, hnodup, hlength, hstart, hlater⟩ := h.exceptions
      have hsub : (s.exceptions.erase e).Sublist s.exceptions := List.erase_sublist
      exact lawful_setClock h ⟨hsorted.sublist hsub, hnodup.sublist hsub, hsub.length_le.trans hlength,
        fun x hx => hstart x (hsub.subset hx), fun hset x hx => hlater hset x (hsub.subset hx)⟩ id h.ranges.clock
        fun x hx => h.ranges.exceptions x (hsub.subset hx)
    · exact h

end

end Sys2Proof.Machine

end

section
/-! PROOF. The bytes of the host port's actions (10.4, 10.5): what an action's bytes spell, and that the decoder and the
encoder agree. -/

namespace Sys2Proof

/-! ### Values wider than a byte, most significant byte first -/

theorem halfBytes_halfOf (a b : Byte) : halfBytes (halfOf a b) = [a, b] := by
  rw [halfBytes, halfOf, BitVec.extractLsb'_append_eq_left, BitVec.extractLsb'_append_eq_right]

theorem wordBytes_wordOf (a b c d : Byte) : wordBytes (wordOf a b c d) = [a, b, c, d] := by
  have ha : (wordOf a b c d).extractLsb' 24 8 = a :=
    (BitVec.extractLsb'_append_eq_of_le (by decide)).trans BitVec.extractLsb'_append_eq_left
  have hb : (wordOf a b c d).extractLsb' 16 8 = b :=
    (BitVec.extractLsb'_append_eq_of_le (by decide)).trans BitVec.extractLsb'_append_eq_right
  have hc : (wordOf a b c d).extractLsb' 8 8 = c :=
    (BitVec.extractLsb'_append_eq_of_add_le (by decide)).trans BitVec.extractLsb'_append_eq_left
  have hd : (wordOf a b c d).extractLsb' 0 8 = d :=
    (BitVec.extractLsb'_append_eq_of_add_le (by decide)).trans BitVec.extractLsb'_append_eq_right
  rw [wordBytes, ha, hb, hc, hd]

theorem segMapBytes_segMapOf (a b : Byte) : segMapBytes (segMapOf a b) = [a, b] := by
  rw [segMapBytes, segMapOf, BitVec.extractLsb'_append_eq_left, BitVec.extractLsb'_append_eq_right]

theorem bytesValue_append (l : List Byte) (b : Byte) : bytesValue (l ++ [b]) = bytesValue l * 256 + b.toNat := by
  simp [bytesValue]

theorem bytesValue_lt (l : List Byte) : bytesValue l < 256 ^ l.length := by
  induction l using List.reverseRecOn with
  | nil => decide
  | append_singleton l b ih =>
    have hb := b.isLt
    rw [bytesValue_append, List.length_append, List.length_singleton, Nat.pow_succ]
    omega

/-- The digits of a value are its bytes. -/
theorem bytesValue_digit (l : List Byte) {n : Nat} (hn : n < l.length) :
    bytesValue l / 256 ^ (l.length - 1 - n) % 256 = l[n].toNat := by
  induction l using List.reverseRecOn with
  | nil => cases hn
  | append_singleton l b ih =>
    have hb : b.toNat < 256 := b.isLt
    have hlen : (l ++ [b]).length = l.length + 1 := by simp
    rw [bytesValue_append]
    by_cases hlast : n = l.length
    · subst hlast
      simp [Nat.mod_eq_of_lt hb]
    · have hlt : n < l.length := by omega
      have hexp : (l ++ [b]).length - 1 - n = (l.length - 1 - n) + 1 := by omega
      rw [hexp, List.getElem_append_left hlt, ← ih hlt, Nat.pow_succ', ← Nat.div_div_eq_div_mul]
      congr 2
      omega

theorem slotsOf_toNat {l : List Byte} (hl : l.length = 42) : (slotsOf l).toNat = bytesValue l := by
  have hlt := bytesValue_lt l
  rw [slotsOf, BitVec.toNat_ofNat]
  refine Nat.mod_eq_of_lt (hlt.trans_le (le_of_eq ?_))
  rw [hl, show 336 = 8 * 42 from rfl, Nat.pow_mul]

theorem slotsBytes_slotsOf {l : List Byte} (hl : l.length = 42) : slotsBytes (slotsOf l) = l := by
  refine List.ext_getElem (by simp [slotsBytes, hl]) fun n hn hnl => ?_
  refine BitVec.eq_of_toNat_eq ?_
  have hdigit : ((slotsOf l).extractLsb' (8 * (41 - n)) 8).toNat = l[n].toNat := by
    rw [BitVec.extractLsb'_toNat, slotsOf_toNat hl, Nat.shiftRight_eq_div_pow, ← bytesValue_digit l hnl, hl, Nat.pow_mul]
  simpa [slotsBytes] using hdigit

/-! ### The decoder's actions -/

/-- The codes of the command table that are actions' (10.5). -/
def actionCodes : List Byte :=
  [0x01, 0x02, 0x03, 0x04, 0x05, 0x06, 0x07, 0x08, 0x09, 0x0A, 0x0B, 0x0C, 0x0D, 0x0E, 0x10, 0x11, 0x12, 0x13,
    0x14, 0x18, 0x19, 0x1C, 0x1D, 0x1E, 0x20, 0x21, 0x22, 0x23, 0x28, 0x29, 0x2F]

/-- Bytes spell an action: it is well-formed, and they are its bytes. -/
def Spells (code : Byte) (args : List Byte) (i : Instr) : Prop :=
  i.isAction = true ∧ i.wellFormed = true ∧ encodeAction i = some (code :: args)

section
variable {code : Byte} {args : List Byte} {i j : Instr}

/-- The action is known, and its bytes are written out. -/
theorem spells_of_some {bytes : List Byte} (h : some j = some i) (ha : j.isAction = true) (hw : j.wellFormed = true)
    (he : encodeAction j = some bytes) (hb : bytes = code :: args) : Spells code args i := by
  cases h
  exact ⟨ha, hw, he.trans (congrArg some hb)⟩

theorem decodeAction_of_not_mem (h : code ∉ actionCodes) (args : List Byte) : decodeAction code args = none := by
  obtain ⟨⟨n, hn⟩⟩ := code
  interval_cases n <;> first | rfl | exact absurd (List.mem_of_elem_eq_true rfl) h

/-! Code by code: the one length of argument bytes that the code takes, and the fields they give. -/

theorem spells_enrol (h : decodeAction 0x01 args = some i) : Spells 0x01 args i := by
  match args, h with
  | [s1, s0, g, a, z, c, n, p1, p0, q1, q0, r1, r0, t1, t0, u1, u0, v1, v0], h =>
    exact spells_of_some h rfl rfl rfl (by simp [placesBytes, halfBytes_halfOf])

theorem spells_amend (h : decodeAction 0x02 args = some i) : Spells 0x02 args i := by
  match args, h with
  | [s1, s0, sel, g, a, z, c, n, p1, p0, q1, q0, r1, r0, t1, t0, u1, u0, v1, v0], h =>
    exact spells_of_some h rfl rfl rfl (by simp [placesBytes, halfBytes_halfOf])

theorem spells_retire (h : decodeAction 0x03 args = some i) : Spells 0x03 args i := by
  match args, h with
  | [s1, s0], h =>
    exact spells_of_some h rfl rfl rfl (by simp [halfBytes_halfOf])

theorem spells_writeClass (h : decodeAction 0x04 args = some i) : Spells 0x04 args i := by
  match args, h with
  | [c, f1, f0, d1, d0, i1, i0, j1, j0, e, g, k, m1, m0, x1, x0], h =>
    exact spells_of_some h rfl rfl rfl (by simp [halfBytes_halfOf])

theorem spells_clearClass (h : decodeAction 0x05 args = some i) : Spells 0x05 args i := by
  match args, h with
  | [c], h =>
    exact spells_of_some h rfl rfl rfl rfl

theorem spells_writeZone (h : decodeAction 0x06 args = some i) : Spells 0x06 args i := by
  match args, h with
  | [z, p, c], h =>
    exact spells_of_some h rfl rfl rfl rfl

theorem spells_setZoneHold (h : decodeAction 0x07 args = some i) : Spells 0x07 args i := by
  match args, h with
  | [z, f], h =>
    exact spells_of_some h rfl rfl rfl rfl

theorem spells_clearZone (h : decodeAction 0x08 args = some i) : Spells 0x08 args i := by
  match args, h with
  | [z], h =>
    exact spells_of_some h rfl rfl rfl rfl

theorem spells_writeSegment (h : decodeAction 0x09 args = some i) : Spells 0x09 args i := by
  match args, h with
  | [g, e, c], h =>
    exact spells_of_some h rfl rfl rfl rfl

theorem spells_requestTest (h : decodeAction 0x0A args = some i) : Spells 0x0A args i := by
  match args, h with
  | [s1, s0, k], h =>
    exact spells_of_some h rfl rfl rfl (by simp [halfBytes_halfOf])

theorem spells_cancelRequest (h : decodeAction 0x0B args = some i) : Spells 0x0B args i := by
  match args, h with
  | [s1, s0], h =>
    exact spells_of_some h rfl rfl rfl (by simp [halfBytes_halfOf])

theorem spells_acceptRepair (h : decodeAction 0x0C args = some i) : Spells 0x0C args i := by
  match args, h with
  | [s1, s0], h =>
    exact spells_of_some h rfl rfl rfl (by simp [halfBytes_halfOf])

theorem spells_revive (h : decodeAction 0x0D args = some i) : Spells 0x0D args i := by
  match args, h with
  | [s1, s0], h =>
    exact spells_of_some h rfl rfl rfl (by simp [halfBytes_halfOf])

theorem spells_abortTest (h : decodeAction 0x0E args = some i) : Spells 0x0E args i := by
  match args, h with
  | [s1, s0], h =>
    exact spells_of_some h rfl rfl rfl (by simp [halfBytes_halfOf])

theorem spells_setClock (h : decodeAction 0x10 args = some i) : Spells 0x10 args i := by
  match args, h with
  | [a, b, c, d], h =>
    exact spells_of_some h rfl rfl rfl (by simp [wordBytes_wordOf])

theorem spells_trimClock (h : decodeAction 0x11 args = some i) : Spells 0x11 args i := by
  match args, h with
  | [a], h =>
    exact spells_of_some h rfl rfl rfl rfl

theorem spells_writeProfile (h : decodeAction 0x12 args = some i) : Spells 0x12 args i := by
  match args, h with
  | p :: slots, h =>
    replace h : (if slots.length = 42 then some (Instr.writeProfile p (slotsOf slots)) else none) = some i := h
    split at h
    next hl => exact spells_of_some h rfl rfl rfl (by simp [slotsBytes_slotsOf hl])
    · cases h

theorem spells_addException (h : decodeAction 0x13 args = some i) : Spells 0x13 args i := by
  match args, h with
  | [a, b, c, d, e, f, g, l, sc, ix, ef], h =>
    exact spells_of_some h rfl rfl rfl (by simp [wordBytes_wordOf])

theorem spells_dropException (h : decodeAction 0x14 args = some i) : Spells 0x14 args i := by
  match args, h with
  | [a, b, c, d, e, f, g, l, sc, ix, ef], h =>
    exact spells_of_some h rfl rfl rfl (by simp [wordBytes_wordOf])

theorem spells_setSweep (h : decodeAction 0x18 args = some i) : Spells 0x18 args i := by
  match args, h with
  | [m, sc, z], h =>
    exact spells_of_some h rfl rfl rfl rfl

theorem spells_startSweep (h : decodeAction 0x19 args = some i) : Spells 0x19 args i := by
  match args, h with
  | [], h =>
    exact spells_of_some h rfl rfl rfl rfl

theorem spells_setTiming (h : decodeAction 0x1C args = some i) : Spells 0x1C args i := by
  match args, h with
  | [a1, a0], h =>
    exact spells_of_some h rfl rfl rfl (by simp [halfBytes_halfOf])

theorem spells_configureLink (h : decodeAction 0x1D args = some i) : Spells 0x1D args i := by
  match args, h with
  | [c, t, l], h =>
    exact spells_of_some h rfl rfl rfl rfl

theorem spells_haltSegments (h : decodeAction 0x1E args = some i) : Spells 0x1E args i := by
  match args, h with
  | [b0, b1], h =>
    exact spells_of_some h rfl rfl rfl (by simp [segMapBytes_segMapOf])

theorem spells_start (h : decodeAction 0x20 args = some i) : Spells 0x20 args i := by
  match args, h with
  | [], h =>
    exact spells_of_some h rfl rfl rfl rfl

theorem spells_suspend (h : decodeAction 0x21 args = some i) : Spells 0x21 args i := by
  match args, h with
  | [f, a, b, c, d], h =>
    exact spells_of_some h rfl rfl rfl (by simp [wordBytes_wordOf])

theorem spells_resume (h : decodeAction 0x22 args = some i) : Spells 0x22 args i := by
  match args, h with
  | [], h =>
    exact spells_of_some h rfl rfl rfl rfl

theorem spells_halt (h : decodeAction 0x23 args = some i) : Spells 0x23 args i := by
  match args, h with
  | [], h =>
    exact spells_of_some h rfl rfl rfl rfl

theorem spells_setTurnaround (h : decodeAction 0x28 args = some i) : Spells 0x28 args i := by
  match args, h with
  | [t], h =>
    exact spells_of_some h rfl rfl rfl rfl

theorem spells_setAttentionLevels (h : decodeAction 0x29 args = some i) : Spells 0x29 args i := by
  replace h : (if args.length = 8 then some (Instr.setAttentionLevels args) else none) = some i := h
  split at h
  next hl => exact spells_of_some h rfl (beq_iff_eq.mpr hl) rfl rfl
  · cases h

theorem spells_resetPart (h : decodeAction 0x2F args = some i) : Spells 0x2F args i := by
  match args, h with
  | [], h =>
    exact spells_of_some h rfl rfl rfl rfl

/-- Whatever bytes decode to is a well-formed action, and the bytes are its bytes. -/
theorem decodeAction_sound (h : decodeAction code args = some i) : Spells code args i := by
  have hcode : code ∈ actionCodes := by
    by_contra hnot
    rw [decodeAction_of_not_mem hnot] at h
    cases h
  simp only [actionCodes, List.mem_cons, List.not_mem_nil, or_false] at hcode
  rcases hcode with rfl | rfl | rfl | rfl | rfl | rfl | rfl | rfl | rfl | rfl | rfl | rfl | rfl | rfl | rfl | rfl |
    rfl | rfl | rfl | rfl | rfl | rfl | rfl | rfl | rfl | rfl | rfl | rfl | rfl | rfl | rfl
  · exact spells_enrol h
  · exact spells_amend h
  · exact spells_retire h
  · exact spells_writeClass h
  · exact spells_clearClass h
  · exact spells_writeZone h
  · exact spells_setZoneHold h
  · exact spells_clearZone h
  · exact spells_writeSegment h
  · exact spells_requestTest h
  · exact spells_cancelRequest h
  · exact spells_acceptRepair h
  · exact spells_revive h
  · exact spells_abortTest h
  · exact spells_setClock h
  · exact spells_trimClock h
  · exact spells_writeProfile h
  · exact spells_addException h
  · exact spells_dropException h
  · exact spells_setSweep h
  · exact spells_startSweep h
  · exact spells_setTiming h
  · exact spells_configureLink h
  · exact spells_haltSegments h
  · exact spells_start h
  · exact spells_suspend h
  · exact spells_resume h
  · exact spells_halt h
  · exact spells_setTurnaround h
  · exact spells_setAttentionLevels h
  · exact spells_resetPart h

end

end Sys2Proof

end

section
/-! PROOF. Every law of the part at part reset, and through each command: the second invariant of every step. -/

namespace Sys2Proof.Machine

/-! ### Part reset (10.6) -/

theorem lawful_reset : State.reset.Lawful := by
  have hnone {i : Nat} {r : Record} (hr : State.reset.record? i = some r) : False := by cases hr
  have hfree (k : Nat) : State.reset.channelAt k = Channel.reset := rfl
  have hunbound {k : Nat} (hk : State.reset.bound k = true) : False := by cases hk
  have hminute : MinuteInRange none := minuteInRange_none
  exact
    { canonical := ⟨.nil, .nil, Table.canonical_nil _, Table.canonical_nil _, Table.canonical_nil _,
        Table.canonical_nil _, Table.canonical_nil _, Table.canonical_nil _⟩
      register :=
        { names := fun _ _ hr => (hnone hr).elim
          zoneCounts := fun _ => ⟨rfl, rfl⟩
          classUsers := fun _ => rfl
          lookup := fun _ _ _ _ => ⟨(by intro hl; cases hl), fun ⟨_, hr, _⟩ => (hnone hr).elim⟩
          neighbours := fun _ _ hr => (hnone hr).elim
          darkness := fun _ _ _ _ hr => (hnone hr).elim
          holds := fun _ _ hr => (hnone hr).elim }
      exceptions := ⟨.nil, .nil, Nat.zero_le _, fun _ he => absurd he List.not_mem_nil, fun hset => by cases hset⟩
      binding :=
        ⟨fun _ _ => rfl, fun _ hk => (hunbound hk).elim, fun _ _ hk => (hunbound hk).elim, fun _ _ hr => (hnone hr).elim,
          fun _ => rfl⟩
      timers := ⟨fun _ _ => rfl, fun k => ⟨by rw [hfree]; rfl, Nat.zero_le _⟩, fun _ => ⟨Nat.zero_le _, Nat.zero_le _⟩⟩
      queue := ⟨fun _ _ => rfl, fun _ ho => absurd ho List.not_mem_nil, fun _ => Nat.zero_le _⟩
      candidates :=
        ⟨⟨Nat.zero_le _, List.nodup_nil, .nil⟩, ⟨Nat.zero_le _, List.nodup_nil, .nil⟩,
          fun _ hc => absurd hc List.not_mem_nil, Nat.le_refl _, Nat.le_refl _, fun _ _ he => by cases he⟩
      programme := ⟨fun _ => by decide, ProgrammeState.noConfusion, fun hp => absurd rfl hp, Bool.noConfusion⟩
      mains := fun _ => ⟨Bool.noConfusion, Mains.noConfusion⟩
      attention := ⟨rfl, by decide, rfl, by decide⟩
      port := ⟨(by intro _ ha; cases ha), (by intro _ hc; cases hc)⟩
      ranges :=
        { clock := ⟨Nat.zero_le _, Nat.zero_le _⟩
          timing := by decide
          threshold := by decide
          turnaround := by decide
          queues := by decide
          orders := fun _ ho => absurd ho List.not_mem_nil
          causes := fun _ => ⟨Nat.zero_le _, Nat.zero_le _⟩
          classes := fun _ => ⟨Nat.zero_le _, fun _ hf => by cases hf⟩
          zones := fun _ => show Zone.reset.InRange by decide
          segments := fun _ => ⟨Nat.le_refl 1, show 1 ≤ 8 by decide, Nat.zero_le _, hminute⟩
          channels := fun _ => show Channel.reset.InRange by decide
          records := fun _ _ hr => (hnone hr).elim
          exceptions := fun _ he => absurd he List.not_mem_nil
          planner := ⟨Nat.zero_le _, Nat.zero_le _, fun _ hc => absurd hc List.not_mem_nil,
            fun _ he => absurd he List.not_mem_nil, rfl, rfl⟩
          resumeMinute := hminute } }

theorem lawful_partReset (s : State) : s.partReset.Lawful := lawful_unread lawful_reset rfl lawful_reset.canonical

/-! ### The register's commands (chapters 01 and 04) -/

theorem clampTo_le {lo hi : Nat} (v : Nat) (h : lo ≤ hi) : clampTo lo hi v ≤ hi := by unfold clampTo; omega

theorem le_clampTo (lo hi v : Nat) : lo ≤ clampTo lo hi v := Nat.le_max_left _ _

theorem Record.holdFits_of_ready {r : Record} (hstate : r.state = .ready) : r.HoldFits := by
  rw [Record.HoldFits, hstate]
  exact ⟨RecordState.noConfusion, fun hs => by rcases hs with hs | hs | hs | hs <;> cases hs⟩

theorem turnaroundOf_mem (n : Nat) : turnaroundOf n = 1 ∨ turnaroundOf n = 2 ∨ turnaroundOf n = 4 := by
  unfold turnaroundOf
  split
  · exact .inl rfl
  · split <;> omega

theorem Figures.clamped_ordered_inRange (f : Figures) : f.clamped.ordered.InRange := by
  refine ⟨⟨?_, ?_⟩, ⟨?_, ?_⟩, ⟨?_, ?_⟩, ⟨?_, ?_⟩, ?_, ?_, ⟨?_, ?_⟩, ?_, ⟨?_, ?_⟩, ?_⟩ <;>
    simp only [Figures.ordered, Figures.clamped, clampTo] <;> omega

section
variable {s : State} (h : s.Lawful)
include h

theorem lawful_enrolEffect (slot : Half) (segment address zone cls count : Byte) (places : List Half) :
    (enrolEffect slot segment address zone cls count places s).1.Lawful := by
  rcases enrolEffect_cases slot segment address zone cls count places s with hend | ⟨henrol, hend⟩ <;> rw [hend]
  · exact h
  · exact lawful_enrolRecord h henrol rfl
      ⟨Nat.zero_le _, now_le h, minuteInRange_none, minuteInRange_none, minuteInRange_none, fun _ ho => by cases ho⟩

theorem lawful_amendEffect (slot : Half) (selection segment address zone cls count : Byte) (places : List Half) :
    (amendEffect slot selection segment address zone cls count places s).1.Lawful := by
  rcases amendEffect_cases slot selection segment address zone cls count places s with hend | ⟨r, hamend, hend⟩ <;>
    rw [hend]
  · exact h
  · exact lawful_applyChanges h hamend

theorem lawful_retireEffect (slot : Half) : (retireEffect slot s).1.Lawful := by
  rcases retireEffect_cases slot s with hend | ⟨r, hr, -, ⟨-, hend⟩ | ⟨hout, hend⟩⟩ <;> rw [hend]
  · exact h
  · exact lawful_setRecord h hr ⟨rfl, rfl, rfl, rfl, rfl⟩ rfl rfl (h.ranges.records _ r hr)
  · exact lawful_freeRecord h hr hout

theorem lawful_writeClassEffect (cls : Byte) (f : Figures) : (writeClassEffect cls f s).1.Lawful := by
  unfold writeClassEffect
  split
  · exact h
  · exact lawful_setClass h rfl (fun g hg => Option.some.inj hg ▸ f.clamped_ordered_inRange) fun hf => by cases hf

theorem lawful_clearClassEffect (cls : Byte) : (clearClassEffect cls s).1.Lawful := by
  unfold clearClassEffect
  split; · exact h
  split; · exact h
  split; · exact h
  next hunused => exact lawful_setClass h rfl (fun _ hf => by cases hf) fun _ => Nat.eq_zero_of_not_pos hunused

theorem lawful_writeZoneEffect (zone profile percent : Byte) : (writeZoneEffect zone profile percent s).1.Lawful := by
  unfold writeZoneEffect
  split; · exact h
  next hprofile =>
  exact lawful_setZone h rfl rfl (Nat.le_of_lt_succ (Nat.lt_of_not_le hprofile))
    ⟨le_clampTo _ _ _, clampTo_le _ (by decide)⟩ (.inl rfl)

theorem lawful_setZoneHoldEffect (zone flag : Byte) : (setZoneHoldEffect zone flag s).1.Lawful := by
  unfold setZoneHoldEffect
  split; · exact h
  next hdefined =>
  split; · exact h
  obtain ⟨hprofile, hlo, hhi, -⟩ := h.ranges.zones zone.toNat
  exact lawful_setZone h rfl rfl hprofile ⟨hlo, hhi⟩ (.inl (Bool.not_eq_false _ |>.mp hdefined))

theorem lawful_clearZoneEffect (zone : Byte) : (clearZoneEffect zone s).1.Lawful := by
  unfold clearZoneEffect
  split; · exact h
  split; · exact h
  next hempty =>
  exact lawful_setZone h rfl rfl (Nat.zero_le _) ⟨show 1 ≤ 100 by decide,
    Nat.le_refl 100⟩ (.inr (Nat.eq_zero_of_not_pos hempty))

theorem lawful_writeSegmentEffect (segment enabled cap : Byte) : (writeSegmentEffect segment enabled cap s).1.Lawful := by
  unfold writeSegmentEffect
  split
  · exact h
  · exact lawful_setSegment h rfl ⟨le_clampTo _ _ _, clampTo_le _ (by decide)⟩ (h.mains _) (h.ranges.segments _).2.2.2

theorem lawful_requestTestEffect (slot : Half) (kind : Byte) : (requestTestEffect slot kind s).1.Lawful := by
  unfold requestTestEffect
  split
  · exact h
  · refine onRecord_keeps (P := State.Lawful) h fun r _ hr => ?_
    split; · exact h
    split; · exact h
    exact lawful_setRecord h hr ⟨rfl, rfl, rfl, rfl, rfl⟩ rfl rfl (h.ranges.records _ r hr)

theorem lawful_cancelRequestEffect (slot : Half) : (cancelRequestEffect slot s).1.Lawful := by
  refine onRecord_keeps (P := State.Lawful) h fun r _ hr => ?_
  split; · exact h
  split; · exact h
  exact lawful_setRecord h hr ⟨rfl, rfl, rfl, rfl, rfl⟩ rfl rfl (h.ranges.records _ r hr)

theorem lawful_acceptRepairEffect (slot : Half) : (acceptRepairEffect slot s).1.Lawful := by
  refine onRecord_keeps (P := State.Lawful) h fun r _ hr => ?_
  obtain ⟨hanswer, henrol, hfunction, hduration, -, hlast⟩ := h.ranges.records _ r hr
  split
  next hfaulty =>
    exact lawful_transition h hr ⟨rfl, rfl, rfl, rfl, rfl⟩ (by rw [hfaulty]; rfl) (Record.holdFits_of_ready rfl)
      ⟨hanswer, henrol, hfunction, hduration, minuteInRange_none, hlast⟩
  · exact h

theorem lawful_reviveEffect (slot : Half) : (reviveEffect slot s).1.Lawful := by
  refine onRecord_keeps (P := State.Lawful) h fun r _ hr => ?_
  obtain ⟨-, henrol, hfunction, hduration, -, hlast⟩ := h.ranges.records _ r hr
  split
  next hsilent =>
    exact lawful_transition h hr ⟨rfl, rfl, rfl, rfl, rfl⟩ (by rw [hsilent]; rfl) (Record.holdFits_of_ready rfl)
      ⟨Nat.zero_le _, henrol, hfunction, hduration, minuteInRange_none, hlast⟩
  · exact h

/-! ### The channels', the planner's and the link's commands (chapters 05 to 08) -/

theorem lawful_abortTestEffect (slot : Half) : (abortTestEffect slot s).1.Lawful := by
  refine onRecord_keeps (P := State.Lawful) h fun r _ _ => ?_
  split
  · exact h
  next k hk =>
    split
    · exact h
    next hstate =>
      have hfound := List.find?_some hk
      rw [Bool.and_eq_true] at hfound
      refine lawful_abortChannel h hfound.1 ?_
      rw [not_or] at hstate
      cases hst : (s.channelAt k).state with
      | free | ordered | running => decide
      | stopping => exact absurd hst hstate.1
      | aborting => exact absurd hst hstate.2

theorem lawful_setTimingEffect (seconds : Half) : (setTimingEffect seconds s).1.Lawful :=
  lawful_setAnswerTime h ⟨le_clampTo _ _ _, clampTo_le _ (by decide)⟩

theorem lawful_setSweepEffect (mode scope zone : Byte) : (setSweepEffect mode scope zone s).1.Lawful := by
  unfold setSweepEffect
  split
  next m sc _ hsc =>
    split; · exact h
    split; · exact h
    have hscope : sc.inRange = true := by
      unfold sweepScopeOfCode at hsc
      split at hsc
      · cases hsc; rfl
      · cases hsc; exact decide_eq_true (Nat.le_of_lt_succ zone.isLt)
      · cases hsc
    obtain ⟨hcursor, -, hworking, hpublished, -, hpass⟩ := h.ranges.planner
    obtain ⟨-, hentries, -, -, htrial, htried⟩ := h.candidates
    have hemptied : ({ s with planner :=
        { s.planner with mode := m, scope := sc, phase := .idle, working := [], tally := 0 } } : State).Lawful :=
      lawful_setPlanner h
        ⟨⟨Nat.zero_le _, List.nodup_nil, .nil⟩, hentries, fun _ hc => absurd hc List.not_mem_nil, Nat.zero_le _, htrial,
          htried⟩
        rfl hcursor (fun _ hc => absurd hc List.not_mem_nil) hpublished hscope hpass
    simp only
    split
    · cases hphase : s.planner.phase with
      | idle | dispatching =>
        simp only [Planner.abandoned, hphase]
        exact lawful_setCourse h rfl hscope
      | visiting =>
        simp only [Planner.abandoned, hphase]
        exact hemptied
    · exact lawful_setCourse h rfl hscope
  · exact h

theorem lawful_startSweepEffect : (startSweepEffect s).1.Lawful := by
  unfold startSweepEffect
  split; · exact h
  split; · exact h
  split; · exact h
  exact lawful_startPass h

theorem lawful_configureLinkEffect (sense threshold loopback : Byte) :
    (configureLinkEffect sense threshold loopback s).1.Lawful := by
  unfold configureLinkEffect
  split
  next c n l _ hn _ =>
    split; · exact h
    have hthreshold : n = 8 ∨ n = 16 ∨ n = 24 ∨ n = 32 := by
      unfold thresholdOfCode at hn
      split at hn <;> cases hn <;> decide
    have hlink : ({ s with link := configured c n l } : State).Lawful :=
      lawful_setLink h (fun _ => rfl) ⟨h.queue.1, fun _ ho => absurd ho List.not_mem_nil, fun _ => Nat.zero_le _⟩
        hthreshold ⟨Nat.zero_le _, Nat.zero_le _⟩ fun _ ho => absurd ho List.not_mem_nil
    exact lawful_writeHaltWord hlink
  · exact h

theorem lawful_haltSegmentsEffect (m : SegMap) : (haltSegmentsEffect m s).1.Lawful := by
  unfold haltSegmentsEffect
  split
  · exact h
  · dsimp only
    exact lawful_joinHalt h m

/-! ### Programme control (chapter 09) -/

theorem lawful_startEffect : (startEffect s).1.Lawful := by
  unfold startEffect
  split; · exact h
  next hstopped =>
  split; · exact h
  next hclock =>
  split; · exact h
  next hlink =>
  have hnone : s.programme.resumeMinute.isSome ≠ true := fun hsome =>
    hstopped (by rw [h.programme.2.2.2 hsome]; exact ProgrammeState.noConfusion)
  exact lawful_setProgramme h
    ⟨ProgrammeState.noConfusion, ProgrammeState.noConfusion,
      fun _ => ⟨Bool.not_eq_false _ |>.mp hclock, Bool.not_eq_false _ |>.mp hlink⟩, fun hsome => absurd hsome hnone⟩
    h.ranges.resumeMinute

/-- The programme written out of STOPPED: to RUNNING or SUSPENDED, with a resume minute only in SUSPENDED. -/
theorem lawful_setProgrammeUnderway {p : Programme} (hnow : s.programme.state ≠ .stopped)
    (hstate : p.state = .running ∨ p.state = .suspended) (hresume : p.resumeMinute.isSome = true → p.state = .suspended)
    (hminute : MinuteInRange p.resumeMinute) : ({ s with programme := p } : State).Lawful := by
  obtain ⟨-, -, hout, -⟩ := h.programme
  refine lawful_setProgramme h ⟨fun hp => ?_, fun hp => ?_, fun _ => hout hnow, hresume⟩ hminute
  · rcases hstate with hs | hs <;> cases hs.symm.trans hp
  · rcases hstate with hs | hs <;> cases hs.symm.trans hp

theorem lawful_suspendEffect (flag : Byte) (minute : Word) : (suspendEffect flag minute s).1.Lawful := by
  unfold suspendEffect
  split; · exact h
  next hrunning =>
  refine lawful_setProgrammeUnderway h (fun hp => ?_) (.inr rfl) (fun _ => rfl) ?_
  · exact hrunning (by rw [hp]; exact ProgrammeState.noConfusion)
  · dsimp only
    split
    · exact minuteInRange_some (Nat.le_of_lt_succ minute.isLt)
    · exact minuteInRange_none

theorem lawful_resumeEffect : (resumeEffect s).1.Lawful := by
  unfold resumeEffect
  split; · exact h
  next hsuspended =>
  refine lawful_setProgrammeUnderway h (fun hp => ?_) (.inl rfl) Bool.noConfusion minuteInRange_none
  exact hsuspended (by rw [hp]; exact ProgrammeState.noConfusion)

theorem lawful_haltEffect : (haltEffect s).1.Lawful := by
  unfold haltEffect
  split; · exact h
  next hunder =>
  rw [not_or] at hunder
  split
  next hnone =>
    exact lawful_setProgramme h
      ⟨fun _ => hnone, ProgrammeState.noConfusion, fun hp => absurd rfl hp, Bool.noConfusion⟩ minuteInRange_none
  next hsome =>
    dsimp only
    exact lawful_joinHalt (s := { s with programme := { state := .halting, resumeMinute := none } }) (lawful_setProgramme h
      ⟨ProgrammeState.noConfusion, fun _ => Nat.pos_of_ne_zero hsome, fun _ => h.programme.2.2.1 hunder.1,
        Bool.noConfusion⟩ minuteInRange_none) _

/-! ### The host port (chapters 10 and 11) -/

/-- The port written in nothing that its law or its range reads. -/
theorem lawful_setPortRest {p : Port} (hhand : p.inHand = s.port.inHand) (hwalk : p.walk = s.port.walk)
    (hturnaround : p.turnaround = s.port.turnaround) : ({ s with port := p } : State).Lawful := by
  refine lawful_setPort h ?_ (hturnaround ▸ h.ranges.turnaround)
  rw [State.PortLaw]
  dsimp only
  rw [hhand, hwalk]
  exact h.port

theorem lawful_leaveStatus : s.leaveStatus.Lawful := lawful_setPortRest h rfl rfl rfl

theorem lawful_send (bytes : List Byte) : (s.send bytes).Lawful := lawful_setPortRest h rfl rfl rfl

theorem lawful_drop : s.drop.Lawful := lawful_setPortRest h rfl rfl rfl

theorem lawful_malformed : s.malformed.Lawful := lawful_setPortRest h rfl rfl rfl

theorem lawful_finish (r : Result) : (s.finish r).Lawful :=
  lawful_setPort h ⟨(by intro _ ha; cases ha), h.port.2⟩ h.ranges.turnaround

theorem lawful_setTurnaroundEffect (bytes : Byte) : (setTurnaroundEffect bytes s).1.Lawful :=
  lawful_setPort h h.port (turnaroundOf_mem _)

/-- A cause's level written, its flag and value as they stand. -/
theorem lawful_setLevel {c : Cause} {n : Nat} (hn : n ≤ 7) :
    (s.setCause c { s.causeAt c with level := n }).Lawful := by
  have hread (d : Cause) : ((s.setCause c { s.causeAt c with level := n }).causeAt d).carried = (s.causeAt d).carried
      ∧ ((s.setCause c { s.causeAt c with level := n }).causeAt d).pending = (s.causeAt d).pending := by
    rw [State.setCause_causeAt]
    split
    next hc => subst hc; exact ⟨rfl, rfl⟩
    · exact ⟨rfl, rfl⟩
  obtain ⟨-, -, -, -, -, -, -, hcanonical⟩ := canonical_setCause h.canonical c { s.causeAt c with level := n }
  refine lawful_setAttention h hcanonical ?_ fun d => ?_
  · show (s.setCause c { s.causeAt c with level := n }).AttentionLaw
    rw [State.AttentionLaw, (hread .mainsChange).1, (hread .mainsChange).2, (hread .overdue).1, (hread .overdue).2]
    exact h.attention
  · show ((s.setCause c { s.causeAt c with level := n }).causeAt d).level ≤ 7
      ∧ ((s.setCause c { s.causeAt c with level := n }).causeAt d).carried ≤ 65535
    refine ⟨?_, (hread d).1.trans_le (h.ranges.causes d).2⟩
    rw [State.setCause_causeAt]
    split
    · exact hn
    · exact (h.ranges.causes d).1

theorem lawful_setLevelsEffect (levels : List Byte) : (setLevelsEffect levels s).1.Lawful := by
  unfold setLevelsEffect
  exact foldl_keeps (P := State.Lawful) (fun _ _ h => lawful_setLevel h (clampTo_le _ (by decide))) _ h

/-- The clearing of the cause that a READ ATTENTION returned (R179): MAINS_CHANGE with its map, OVERDUE not at all. -/
theorem lawful_clearRead (c : Cause) : (s.clearRead c).Lawful := by
  by_cases ho : c = .overdue
  · subst ho; exact h
  have hcan : (s.clearRead c).Canonical := by
    unfold State.clearRead
    split
    · simp only
      split <;> exact canonical_setCause h.canonical _ _
    · exact h.canonical
  have hlaw : (s.clearRead c).AttentionLaw := by
    have hover : (s.clearRead c).causeAt .overdue = s.causeAt .overdue := State.clearRead_causeAt_other (Ne.symm ho)
    have hplanner : (s.clearRead c).planner = s.planner := by rw [State.clearRead_frame]
    rw [State.AttentionLaw, hover, hplanner, State.clearRead_changeMap]
    obtain ⟨hcarried, hpending, hrest⟩ := h.attention
    by_cases hm : c = .mainsChange
    · subst hm
      rw [State.clearRead_causeAt_self ho, if_pos rfl]
      exact ⟨rfl, ⟨Bool.noConfusion, fun hne => absurd rfl hne⟩, hrest⟩
    · rw [State.clearRead_causeAt_other (Ne.symm hm), if_neg hm]
      exact ⟨hcarried, hpending, hrest⟩
  have hrange (d : Cause) : ((s.clearRead c).causeAt d).level ≤ 7 ∧ ((s.clearRead c).causeAt d).carried ≤ 65535 := by
    by_cases hd : d = c
    · subst hd
      rw [State.clearRead_causeAt_self ho]
      exact ⟨(h.ranges.causes d).1, Nat.zero_le _⟩
    · rw [State.clearRead_causeAt_other hd]; exact h.ranges.causes d
  rw [State.clearRead_frame] at hcan hlaw hrange ⊢
  exact lawful_setAttention h hcan.2.2.2.2.2.2.2 hlaw hrange

end

section
variable {s : State}

theorem lawful_sampleAttention (h : s.Lawful) : s.sampleAttention.Lawful := by
  unfold State.sampleAttention
  simp only
  split
  · exact lawful_clearRead (lawful_send h _) _
  · exact lawful_send h _

theorem lawful_acceptAs (h : s.Lawful) {a : Option Instr}
    (ha : ∀ c, a = some c → c.isAction = true ∧ c.wellFormed = true) : (s.acceptAs a).Lawful := by
  unfold State.acceptAs
  split
  · exact lawful_partReset s
  next c hreset =>
    split
    · exact lawful_drop h
    · obtain ⟨hact, hwell⟩ := ha c rfl
      refine lawful_setPort h ⟨fun a ha => ?_, h.port.2⟩ h.ranges.turnaround
      cases ha
      exact ⟨hact, hwell, fun he => hreset he⟩
  · split
    · exact lawful_drop h
    · exact lawful_malformed h

theorem lawful_acceptBytes (h : s.Lawful) (bytes : List Byte) (whole : Bool) : (s.acceptBytes bytes whole).Lawful := by
  unfold State.acceptBytes
  split
  · exact h
  · split
    · exact h
    · refine lawful_acceptAs h fun c hc => ?_
      split at hc
      · obtain ⟨hact, hwell, -⟩ := decodeAction_sound hc
        exact ⟨hact, hwell⟩
      · cases hc
    · exact lawful_acceptAs h fun c hc => by cases hc

theorem lawful_acceptTransaction (h : s.Lawful) (bytes : List Byte) (ending : TransactionEnd) :
    (s.acceptTransaction bytes ending).Lawful := by
  cases ending with
  | whole => exact lawful_acceptBytes h bytes true
  | midByte => exact lawful_acceptBytes h bytes false
  | abandoned => exact h

/-- What the law of the port says of a walk's cursor (R173). -/
def WalkCursor.Fits (c : WalkCursor) : Prop :=
  c.start ≤ 65535 ∧ (c.next < 4096 ∨ c.next = c.start) ∧ (4096 ≤ c.start → c.next = c.start)

theorem lawful_setWalk (h : s.Lawful) {c : WalkCursor} {bytes : List Byte} (hc : c.Fits) :
    ({ s with port := { s.port with walk := some c, output := bytes } } : State).Lawful :=
  lawful_setPort h ⟨h.port.1, fun _ hd => Option.some.inj hd ▸ hc⟩ h.ranges.turnaround

theorem nextIndex_lt (i : Nat) : nextIndex i < 4096 := by
  unfold nextIndex Config.slotCount
  split <;> omega

theorem lawful_sampleEnd (h : s.Lawful) {c : WalkCursor} (hc : c.start ≤ 65535) : (s.sampleEnd c).Lawful :=
  lawful_setWalk h ⟨hc, .inr rfl, fun _ => rfl⟩

theorem lawful_sampleMember (h : s.Lawful) {c : WalkCursor} (hc : c.start < 4096) (first : Bool) :
    (s.sampleMember c first).Lawful := by
  have hstart : c.start ≤ 65535 := by omega
  unfold State.sampleMember
  split
  next i r _ => exact lawful_setWalk h ⟨hstart, .inl (nextIndex_lt i), fun hle => absurd hc (Nat.not_lt.mpr hle)⟩
  · exact lawful_setWalk h ⟨hstart, .inr rfl, fun _ => rfl⟩

theorem lawful_startWalk (h : s.Lawful) (f : WalkFilter) {start : Nat} (hstart : start ≤ 65535) :
    (s.startWalk f start).Lawful := by
  unfold State.startWalk
  simp only
  split
  next hlt => exact lawful_sampleMember h hlt true
  · exact lawful_sampleEnd h hstart

theorem lawful_startRecordWalk (h : s.Lawful) {start : Nat} (hstart : start ≤ 65535) :
    (s.startRecordWalk start).Lawful := by
  unfold State.startRecordWalk
  split
  next hlt => exact lawful_setWalk h ⟨hstart, .inl (nextIndex_lt start), fun hle => absurd hlt (Nat.not_lt.mpr hle)⟩
  · exact lawful_sampleEnd h hstart

theorem lawful_nextImage (h : s.Lawful) : s.nextImage.Lawful := by
  unfold State.nextImage
  split
  next c hc =>
    obtain ⟨hstart, -, hend⟩ := h.port.2 c hc
    split
    · exact lawful_sampleEnd h hstart
    next hmore => exact lawful_sampleMember h (Nat.lt_of_not_le fun hle => hmore (hend hle)) false
  · exact h

theorem lawful_readEffect (h : s.Lawful) {data : State → State} (hdata : ∀ t : State, t.Lawful → (data t).Lawful) :
    (readEffect data s).Lawful := by
  unfold readEffect State.serve
  split
  · exact lawful_send (lawful_leaveStatus h) _
  · exact hdata _ (lawful_leaveStatus h)

theorem lawful_repeatStatus (h : s.Lawful) : s.repeatStatus.Lawful := by
  unfold State.repeatStatus
  split
  · exact lawful_send h _
  · exact h

theorem lawful_endWalk (h : s.Lawful) : s.endWalk.Lawful :=
  lawful_setPort h ⟨h.port.1, fun _ hc => by cases hc⟩ h.ranges.turnaround

end

/-! ### Every command -/

/-- Every command's course keeps the laws: an action's and an event's from a settled state. -/
theorem course_keeps_lawful (c : Instr) : (course c).Keeps State.Lawful fun s => s.Lawful ∧ s.calm = true := by
  have whole (data : State → List Byte) (s : State) (h : s.Lawful ∧ s.calm = true) : (sampleEffect data s).Lawful :=
    lawful_readEffect h.1 fun t ht => lawful_send ht _
  have half (v : Half) : v.toNat ≤ 65535 := Nat.le_of_lt_succ v.isLt
  cases c with
  | enrol => exact fun s h => lawful_enrolEffect h.1 ..
  | amend => exact fun s h => lawful_amendEffect h.1 ..
  | retire => exact fun s h => lawful_retireEffect h.1 _
  | writeClass => exact fun s h => lawful_writeClassEffect h.1 _ _
  | clearClass => exact fun s h => lawful_clearClassEffect h.1 _
  | writeZone => exact fun s h => lawful_writeZoneEffect h.1 ..
  | setZoneHold => exact fun s h => lawful_setZoneHoldEffect h.1 _ _
  | clearZone => exact fun s h => lawful_clearZoneEffect h.1 _
  | writeSegment => exact fun s h => lawful_writeSegmentEffect h.1 ..
  | requestTest => exact fun s h => lawful_requestTestEffect h.1 _ _
  | cancelRequest => exact fun s h => lawful_cancelRequestEffect h.1 _
  | acceptRepair => exact fun s h => lawful_acceptRepairEffect h.1 _
  | revive => exact fun s h => lawful_reviveEffect h.1 _
  | abortTest => exact fun s h => lawful_abortTestEffect h.1 _
  | setClock => exact fun s h => lawful_setClockEffect h.1 _
  | trimClock => exact fun s h => lawful_trimClockEffect h.1 _
  | writeProfile => exact fun s h => lawful_writeProfileEffect h.1 _ _
  | addException => exact fun s h => lawful_addExceptionEffect h.1 ..
  | dropException => exact fun s h => lawful_dropExceptionEffect h.1 ..
  | setSweep => exact fun s h => lawful_setSweepEffect h.1 ..
  | startSweep => exact fun s h => lawful_startSweepEffect h.1
  | setTiming => exact fun s h => lawful_setTimingEffect h.1 _
  | configureLink => exact fun s h => lawful_configureLinkEffect h.1 ..
  | haltSegments => exact fun s h => lawful_haltSegmentsEffect h.1 _
  | start => exact fun s h => lawful_startEffect h.1
  | suspend => exact fun s h => lawful_suspendEffect h.1 _ _
  | resume => exact fun s h => lawful_resumeEffect h.1
  | halt => exact fun s h => lawful_haltEffect h.1
  | setTurnaround => exact fun s h => lawful_setTurnaroundEffect h.1 _
  | setAttentionLevels => exact fun s h => lawful_setLevelsEffect h.1 _
  | resetPart | partReset => exact fun s _ => lawful_partReset s
  | accept => exact fun s h => lawful_acceptTransaction (lawful_leaveStatus h.1) _ _
  | readStatus => exact fun s h => lawful_setPortRest h.1 rfl rfl rfl
  | statusRepetition => exact fun s h => lawful_repeatStatus h.1
  | readAttention => exact fun s h => lawful_sampleAttention (lawful_leaveStatus h.1)
  | readRecord => exact fun s h => lawful_readEffect h.1 fun t ht => lawful_startRecordWalk ht (half _)
  | walkZone | walkState => exact fun s h => lawful_readEffect h.1 fun t ht => lawful_startWalk ht _ (half _)
  | walkNextImage => exact fun s h => lawful_nextImage h.1
  | walkEnd => exact fun s h => lawful_endWalk h.1
  | readClock | findAddress | readClass | readZone | readSegment | readProfile | readExceptions | readChannels
  | readCandidates => exact whole _
  | secondTick => exact fun s h => lawful_tick h.1 h.2
  | runExpiry => exact fun s h => lawful_expireRun h _
  | answerExpiry => exact fun s h => lawful_expireAnswer h _
  | stall => exact fun s h => lawful_raiseStall h
  | visit => exact fun s h => lawful_visitNext h.1
  | passCompletion => exact fun s h => lawful_finishPass h.1
  | trial => exact fun s h => lawful_runTrial h.1
  | orderTake => exact fun s h => lawful_takeOrder h.1
  | loopbackTake => exact fun s h => lawful_takeLoopback h.1
  | reportWrite => exact fun s h => lawful_writeReport h.1 _
  | reportTake => exact fun s h => lawful_takeReport h.1
  | mainsWordWrite => exact fun s h => lawful_writeMains h.1 _
  | mainsWordTake => exact fun s h => lawful_takeMains h.1
  | haltTake => exact fun s h => lawful_takeHalt h.1

/-- Every step from a lawful state leads to a lawful state. -/
theorem step_lawful {s t : State} (hs : s.Lawful) (ht : step s = .next t) : t.Lawful :=
  step_keeps (P := State.Lawful) (fun _ _ h => lawful_unread h rfl h.canonical)
    (fun c _ _ hs h =>
      exec_keeps (P := State.Lawful) (Q := fun s => s.Lawful ∧ s.calm = true) (fun _ h => ⟨lawful_settle h,
        State.settle_calm (Nat.lt_of_lt_of_le (by decide) h.ranges.timing.1)⟩)
        (fun _ r h => lawful_finish h r) (fun _ h => lawful_drop h.1) (course_keeps_lawful c) hs h)
    hs ht

/-- A list of numbers below `n`, none more than twice. -/
theorem length_le_of_count_le {n : Nat} {l : List Nat} (hl : ∀ x ∈ l, x < n) (hcount : ∀ k, l.count k ≤ 2) :
    l.length ≤ 2 * n := by
  induction n generalizing l with
  | zero =>
    cases l with
    | nil => exact Nat.zero_le _
    | cons x l => exact absurd (hl x List.mem_cons_self) (Nat.not_lt_zero x)
  | succ n ih =>
    have hrest : (l.filter fun x => !(x == n)).length ≤ 2 * n := by
      refine ih (fun x hx => ?_) fun k => (List.filter_sublist.count_le k).trans (hcount k)
      obtain ⟨hx, hne⟩ := List.mem_filter.mp hx
      have := hl x hx
      simp only [Bool.not_eq_true', beq_eq_false_iff_ne] at hne
      omega
    have hsplit := List.length_eq_length_filter_add (l := l) (· == n)
    have htwice := hcount n
    rw [List.count, List.countP_eq_length_filter] at htwice
    omega

/-- At most two orders of each of 32 channels are queued (R135). -/
theorem dispatch_length_le {s : State} (h : s.Lawful) : s.link.dispatch.length ≤ 64 := by
  obtain ⟨hexist, hbound, hroom⟩ := h.queue
  rw [← List.length_map (f := Order.channel)]
  refine length_le_of_count_le (n := 32) (fun k hk => ?_) fun k => ?_
  · obtain ⟨o, ho, rfl⟩ := List.mem_map.mp hk
    exact bound_lt hexist (hbound o ho).1
  · rw [List.count, List.countP_map]
    refine (hroom k).trans ?_
    cases (s.channelAt k).state <;> decide

end Sys2Proof.Machine

open Sys2Proof.Machine

/-- Settles O53: every law of `State.reset` from its empty tables and its constant fields. -/
theorem lawfulAtReset : Obligations.LawfulAtReset := lawful_reset

/-- Settles O55: every law is kept, and these are among them. -/
theorem registerCountsKept : Obligations.RegisterCountsKept := fun _ _ hs ht =>
  let h := step_lawful hs ht
  ⟨h.register.names, h.register.zoneCounts, h.register.classUsers, h.register.lookup⟩

/-- Settles O56: every law is kept, and these are among them. -/
theorem neighboursStayLit : Obligations.NeighboursStayLit := fun _ _ hs ht =>
  let h := step_lawful hs ht
  ⟨h.register.neighbours, h.register.darkness⟩

/-- Settles O57: every law is kept, and these are among them. -/
theorem bindingKept : Obligations.BindingKept := fun _ _ hs ht =>
  let h := step_lawful hs ht
  ⟨h.binding, h.register.holds⟩

/-- Settles O58: every law is kept, and of lawful channels at most two orders each are queued. -/
theorem channelTimersAndOrdersKept : Obligations.ChannelTimersAndOrdersKept := fun _ _ hs ht =>
  let h := step_lawful hs ht
  ⟨h.timers, h.queue, dispatch_length_le h⟩

/-- Settles O59: every law is kept, and these are among them. -/
theorem otherLawsKept : Obligations.OtherLawsKept := fun _ _ hs ht =>
  let h := step_lawful hs ht
  ⟨h.exceptions, h.candidates, h.programme, h.mains, h.attention, h.port, h.ranges⟩

end

section
/-! PROOF. What no command but a part reset undoes: the waiting commands, a SET clock, a CONFIGURED link, a known mains
state; and that the blocks of the part leave the host port to the port's own commands. -/

namespace Sys2Proof.Machine

/-! ### What is kept from one state to the next -/

/-- The waiting commands stand, and nothing known is forgotten: a SET clock, a CONFIGURED link, a mains state. -/
structure State.Remembers (s t : State) : Prop where
  pending : t.pending = s.pending
  clock : s.clock.isSet = true → t.clock.isSet = true
  link : s.link.configured = true → t.link.configured = true
  mains : ∀ g, (s.segmentAt g).mains ≠ .unknown → (t.segmentAt g).mains ≠ .unknown

/-- The change is the blocks' own: the host port stands too. -/
structure State.Inward (s t : State) : Prop extends s.Remembers t where
  port : t.port = s.port

theorem State.Remembers.refl (s : State) : s.Remembers s := ⟨rfl, id, id, fun _ => id⟩

theorem State.Remembers.trans {s t u : State} (h : s.Remembers t) (k : t.Remembers u) : s.Remembers u :=
  ⟨k.pending.trans h.pending, k.clock ∘ h.clock, k.link ∘ h.link, fun g => k.mains g ∘ h.mains g⟩

theorem State.Inward.refl (s : State) : s.Inward s := ⟨.refl s, rfl⟩

theorem State.Inward.trans {s t u : State} (h : s.Inward t) (k : t.Inward u) : s.Inward u :=
  ⟨h.toRemembers.trans k.toRemembers, k.port.trans h.port⟩

theorem State.Inward.of_eq {s t : State} (hpending : t.pending = s.pending) (hclock : t.clock.isSet = s.clock.isSet)
    (hlink : t.link.configured = s.link.configured) (hsegments : t.segments = s.segments) (hport : t.port = s.port) :
    s.Inward t :=
  ⟨⟨hpending, fun h => hclock.trans h, fun h => hlink.trans h,
    fun g h => by rwa [State.segmentAt_congr hsegments]⟩, hport⟩

theorem State.Remembers.of_port (s : State) (p : Port) : s.Remembers { s with port := p } := ⟨rfl, id, id, fun _ => id⟩

section
variable {s : State}

theorem inward_ite {p : Prop} [Decidable p] {a b : State} (ha : s.Inward a) (hb : s.Inward b) :
    s.Inward (if p then a else b) := by split <;> assumption

theorem inward_foldl {α : Type} {f : State → α → State} (hf : ∀ (t : State) a, t.Inward (f t a)) (l : List α) (s : State) :
    s.Inward (l.foldl f s) := foldl_keeps (P := s.Inward) (fun t a h => h.trans (hf t a)) l (.refl s)

theorem inward_setSegment {g : Nat} {e : Segment} (hmains : (s.segmentAt g).mains ≠ .unknown → e.mains ≠ .unknown) :
    s.Inward (s.setSegment g e) := by
  refine ⟨⟨rfl, id, id, fun d h => ?_⟩, rfl⟩
  rw [State.setSegment_segmentAt]
  split
  next hd => subst hd; exact hmains h
  · exact h

/-! ### The register (chapters 01 and 04) -/

theorem inward_freeRecord (i : Nat) (r : Record) : s.Inward (s.freeRecord i r) :=
  .of_eq (by rw [State.freeRecord_frame]) (by rw [State.freeRecord_frame]) (by rw [State.freeRecord_frame])
    (by rw [State.freeRecord_frame]) (by rw [State.freeRecord_frame])

theorem inward_setRecord (i : Nat) (r : Record) : s.Inward (s.setRecord i r) := .of_eq rfl rfl rfl rfl rfl

theorem inward_transition (i : Nat) (b a : Record) : s.Inward (s.transition i b a) := .of_eq rfl rfl rfl rfl rfl

theorem inward_setClass (c : Nat) (e : ClassEntry) : s.Inward (s.setClass c e) := .of_eq rfl rfl rfl rfl rfl

theorem inward_setZone (z : Nat) (e : Zone) : s.Inward (s.setZone z e) := .of_eq rfl rfl rfl rfl rfl

theorem inward_setCause (c : Cause) (v : CauseState) : s.Inward (s.setCause c v) := .of_eq rfl rfl rfl rfl rfl

theorem inward_raise (c : Cause) (v : Nat) : s.Inward (s.raise c v) := inward_setCause _ _

/-! ### The channels (chapter 06) -/

theorem inward_setChannel (k : Nat) (c : Channel) : s.Inward (s.setChannel k c) := .of_eq rfl rfl rfl rfl rfl

theorem inward_queueOrder (kind : OrderKind) (k : Nat) : s.Inward (s.queueOrder kind k) :=
  .of_eq (by rw [State.queueOrder_frame]) (by rw [State.queueOrder_frame]) (by rw [State.queueOrder_frame])
    (by rw [State.queueOrder_frame]) (by rw [State.queueOrder_frame])

theorem inward_registerClose (c : Channel) (v : Verdict) (d : Option Detail) : s.Inward (s.registerClose c v d) := by
  unfold State.registerClose
  split
  next r _ =>
    have hregister : s.Inward (if r.retirePending then s.freeRecord c.index r
        else s.applyVerdict c.index r
          { kind := c.kind, verdict := v, detail := d, elapsed := c.elapsed, run := c.runSeconds }) :=
      inward_ite (inward_freeRecord _ _)
        (.of_eq (by rw [State.applyVerdict_frame]) (by rw [State.applyVerdict_frame]) (by rw [State.applyVerdict_frame])
          (by rw [State.applyVerdict_frame]) (by rw [State.applyVerdict_frame]))
    exact hregister.trans (inward_setSegment id)
  · exact .refl s

theorem inward_haltEnd : s.Inward s.haltEnd :=
  .of_eq (by rw [State.haltEnd_frame]) (by rw [State.haltEnd_frame]) (by rw [State.haltEnd_frame])
    (by rw [State.haltEnd_frame]) (by rw [State.haltEnd_frame])

theorem inward_close (k : Nat) (v : Verdict) (d : Option Detail) : s.Inward (s.close k v d) := by
  unfold State.close
  refine State.Inward.trans ?_ inward_haltEnd
  refine State.Inward.trans ?_ (inward_setChannel k _)
  exact (inward_registerClose _ v d).trans (.of_eq rfl rfl rfl rfl rfl)

theorem inward_closeVoid (k : Nat) : s.Inward (s.closeVoid k) := inward_close _ _ _

theorem inward_expireRun (k : Nat) : s.Inward (s.expireRun k) :=
  inward_ite ((inward_setChannel _ _).trans (inward_queueOrder _ _)) (.refl s)

theorem inward_answerClose (k : Nat) : s.Inward (s.answerClose k) := by
  unfold State.answerClose
  simp only
  split
  · exact inward_close _ _ _
  · exact inward_close _ _ _
  · exact inward_ite ((inward_closeVoid k).trans (inward_raise _ _)) (inward_closeVoid k)
  · exact .refl s

theorem inward_expireAnswer (k : Nat) : s.Inward (s.expireAnswer k) := inward_ite (inward_answerClose k) (.refl s)

theorem inward_raiseStall : s.Inward s.raiseStall := inward_ite (.of_eq rfl rfl rfl rfl rfl) (.refl s)

theorem inward_settle : s.Inward s.settle := by
  unfold State.settle
  exact inward_ite (.refl s)
    (inward_raiseStall.trans (inward_foldl (fun _ k => (inward_expireAnswer k).trans (inward_expireRun k)) _ _))

theorem inward_startMark (i : Nat) : s.Inward (s.startMark i) := by
  unfold State.startMark
  split
  · exact inward_transition _ _ _
  · exact .refl s

theorem inward_judgeReport (k : Nat) (kind : ReportKind) (d : Nat) : s.Inward (s.judgeReport k kind d) := by
  have hstart : s.Inward (s.startRun k) := (inward_setChannel _ _).trans (inward_startMark _)
  unfold State.judgeReport
  split
  · exact hstart
  · exact inward_close _ _ _
  · exact inward_close _ _ _
  · exact inward_close _ _ _
  · exact inward_close _ _ _
  · exact inward_close _ _ _
  · exact inward_close _ _ _
  · exact inward_closeVoid k
  · exact inward_raise _ _

theorem inward_takeReport : s.Inward s.takeReport := by
  unfold State.takeReport
  split
  · exact .refl s
  next w rest _ =>
    have htaken : s.Inward { s with link := { s.link with reports := rest } } := .of_eq rfl rfl rfl rfl rfl
    simp only
    refine inward_ite (htaken.trans ?_) (htaken.trans (inward_raise _ _))
    unfold State.receiveReport
    refine inward_ite ?_ (inward_raise _ _)
    split
    · exact inward_judgeReport _ _ _
    · exact inward_raise _ _

theorem inward_abortChannel (k : Nat) : s.Inward (s.abortChannel k) :=
  (inward_setChannel _ _).trans (inward_queueOrder _ _)

/-! ### The mains and the halts (chapter 08) -/

theorem inward_mainsTransition {g : Nat} {m : Mains} {o : Option Nat} (hm : m ≠ .unknown) :
    s.Inward (s.mainsTransition g m o) :=
  (inward_setSegment fun _ => hm).trans (.of_eq rfl rfl rfl rfl rfl)

theorem inward_outageAt (g k : Nat) : s.Inward (State.outageAt g s k) := inward_ite (inward_closeVoid k) (.refl s)

theorem inward_haltTakeAt (m : SegMap) (k : Nat) : s.Inward (State.haltTakeAt m s k) :=
  inward_ite (inward_closeVoid k) (.refl s)

theorem inward_outageEntry (g : Nat) : s.Inward (s.outageEntry g) := by
  unfold State.outageEntry
  exact (inward_mainsTransition Mains.noConfusion).trans
    (inward_foldl (fun _ => inward_outageAt g) _ _)

theorem inward_outageHold (g o i : Nat) : s.Inward (s.outageHold g o i) := by
  unfold State.outageHold
  split
  · exact inward_ite (inward_transition _ _ _) (.refl s)
  · exact .refl s

theorem inward_restore (g : Nat) : s.Inward (s.restore g) := by
  unfold State.restore State.outageHolds
  exact (inward_mainsTransition Mains.noConfusion).trans
    (inward_foldl (fun _ (e : Nat × Record) => inward_outageHold _ _ e.1) _ _)

theorem inward_mainsAt (m : SegMap) (g : Nat) : s.Inward (State.mainsAt m s g) := by
  unfold State.mainsAt
  split
  · exact inward_mainsTransition Mains.noConfusion
  · exact inward_outageEntry g
  · exact inward_outageEntry g
  · exact inward_restore g
  · exact .refl s
  · exact .refl s

theorem inward_takeMains : s.Inward s.takeMains := by
  unfold State.takeMains
  split
  · exact .refl s
  · have htaken : s.Inward { s with link := { s.link with mainsBox := none } } := .of_eq rfl rfl rfl rfl rfl
    simp only
    refine inward_ite (htaken.trans ?_) (htaken.trans (inward_raise _ _))
    unfold State.applyMains
    exact inward_foldl (fun _ => inward_mainsAt _) _ _

theorem inward_writeHaltWord : s.Inward s.writeHaltWord :=
  .of_eq (by rw [State.writeHaltWord_frame]) (by rw [State.writeHaltWord_frame]) (by rw [State.writeHaltWord_frame])
    (by rw [State.writeHaltWord_frame]) (by rw [State.writeHaltWord_frame])

theorem inward_takeHalt : s.Inward s.takeHalt := by
  unfold State.takeHalt
  split
  · exact .refl s
  next m _ =>
    refine inward_ite ?_ (.refl s)
    have htaken : s.Inward
        { s with
          link := { s.link with haltBox := none }
          line := if s.link.loopback then s.line else { s.line with halt := some (boxWord s.link.sense m) } } :=
      .of_eq rfl rfl rfl rfl rfl
    exact (htaken.trans (inward_foldl (fun _ => inward_haltTakeAt m) allChannels _)).trans inward_writeHaltWord

theorem inward_joinHalt (m : SegMap) : s.Inward (s.joinHalt m) := by
  unfold State.joinHalt
  refine State.Inward.trans ?_ inward_writeHaltWord
  rw [State.haltMark_frame]
  exact .of_eq rfl rfl rfl rfl rfl

/-! ### The clock and the planner (chapters 02 and 05) -/

theorem State.timedResume_frame (s : State) (v : Nat) :
    s.timedResume v
      = { s with programme := (s.timedResume v).programme, attention := (s.timedResume v).attention } := by
  unfold State.timedResume
  split
  · split <;> rfl
  · rfl

theorem State.advancePlanner_frame (s : State) : s.advancePlanner = { s with planner := s.advancePlanner.planner } := by
  unfold State.advancePlanner
  split <;> rfl

/-- The three owners of a clock advance before programme control (R28). -/
theorem State.clockAdvance_eq (s : State) (v : Nat) :
    s.clockAdvance v
      = ({ s with
            luminaires := (s.releaseHolds v).luminaires
            zones := (s.releaseHolds v).zones
            exceptions := s.exceptions.filter fun e => decide (v < e.stop)
            planner := s.advancePlanner.planner }).timedResume v := by
  have hexpired : (s.releaseHolds v).expireExceptions v
      = { s with
          luminaires := (s.releaseHolds v).luminaires
          zones := (s.releaseHolds v).zones
          exceptions := s.exceptions.filter fun e => decide (v < e.stop) } := by
    rw [State.expireExceptions, State.releaseHolds_frame]
  have hplanner : ((s.releaseHolds v).expireExceptions v).advancePlanner.planner = s.advancePlanner.planner := by
    rw [hexpired]
    show (if s.planner.mode = .repeating ∧ s.planner.phase = .idle then _ else _ : State).planner = _
    unfold State.advancePlanner
    split <;> rfl
  rw [State.clockAdvance, State.advancePlanner_frame, hplanner, hexpired]

/-- What the four owners of a clock advance write (R28). -/
theorem State.clockAdvance_frame (s : State) (v : Nat) :
    s.clockAdvance v
      = { s with
          luminaires := (s.releaseHolds v).luminaires
          zones := (s.releaseHolds v).zones
          exceptions := s.exceptions.filter fun e => decide (v < e.stop)
          planner := s.advancePlanner.planner
          programme := (s.clockAdvance v).programme
          attention := (s.clockAdvance v).attention } := by
  rw [State.clockAdvance_eq, State.timedResume_frame]

theorem inward_clockAdvance (v : Nat) : s.Inward (s.clockAdvance v) :=
  .of_eq (by rw [State.clockAdvance_frame]) (by rw [State.clockAdvance_frame]) (by rw [State.clockAdvance_frame])
    (by rw [State.clockAdvance_frame]) (by rw [State.clockAdvance_frame])

theorem inward_setValue (v : Nat) : s.Inward (s.setValue v) := by
  have hvalue : s.Inward { s with clock := { s.clock with value := v } } := .of_eq rfl rfl rfl rfl rfl
  exact hvalue.trans (inward_clockAdvance v)

theorem inward_tick : s.Inward s.tick := by
  have hclock : s.Inward s.tickClock := by
    unfold State.tickClock
    refine inward_ite (inward_ite ?_ ?_) (.refl s)
    · refine State.Inward.trans ?_ (inward_setValue _)
      exact .of_eq rfl rfl rfl rfl rfl
    · exact .of_eq rfl rfl rfl rfl rfl
  have hlink (t : State) : t.Inward t.tickLink := inward_ite (.of_eq rfl rfl rfl rfl rfl) (.refl t)
  have hchannels (t : State) : t.Inward t.tickChannels := .of_eq rfl rfl rfl rfl rfl
  exact (hclock.trans (hchannels _)).trans (hlink _)

theorem inward_finishPass : s.Inward s.finishPass := by
  unfold State.finishPass
  refine inward_ite ?_ (.refl s)
  rw [State.completePass_eq]
  exact inward_ite (.of_eq rfl rfl rfl rfl rfl) (.of_eq rfl rfl rfl rfl rfl)

theorem inward_visitNext : s.Inward s.visitNext := by
  unfold State.visitNext
  refine inward_ite ?_ (.refl s)
  split
  · exact .of_eq rfl rfl rfl rfl rfl
  · exact .refl s

theorem inward_dispatchMark (i : Nat) (r : Record) : s.Inward (s.dispatchMark i r) :=
  (inward_transition _ _ _).trans (inward_setSegment id)

theorem inward_dispatch (e : Candidate) : s.Inward (s.dispatch e) := by
  unfold State.dispatch
  split
  next k r _ _ =>
    refine State.Inward.trans ?_ (inward_dispatchMark _ _)
    exact State.Inward.trans (inward_setChannel _ _) (inward_queueOrder _ _)
  · exact .refl s

theorem inward_runTrial : s.Inward s.runTrial := by
  unfold State.runTrial
  refine inward_ite (inward_ite ?_ (.of_eq rfl rfl rfl rfl rfl)) (.refl s)
  split
  · unfold State.tryEntry
    simp only
    have htried (t : State) (pos : Nat) (e : PublishedEntry) (o : TrialOutcome) : t.Inward (t.recordTrial pos e o) :=
      .of_eq rfl rfl rfl rfl rfl
    refine State.Inward.trans ?_ (htried _ _ _ _)
    split
    · exact inward_dispatch _
    · exact .refl s
  · exact .of_eq rfl rfl rfl rfl rfl

/-! ### The actions -/

theorem inward_onRecord {slot : Half} {effect : State → Nat → Record → State × Result}
    (heffect : ∀ i r, s.Inward (effect s i r).1) : s.Inward (onRecord slot effect s).1 :=
  onRecord_keeps (P := s.Inward) (.refl s) fun _ _ _ => heffect _ _

theorem inward_end {p : Prop} [Decidable p] {r : Result} {b : State × Result} (hb : s.Inward b.1) :
    s.Inward (if p then (s, r) else b).1 := by
  split
  · exact .refl s
  · exact hb

theorem inward_last {p : Prop} [Decidable p] {r q : Result} {t : State} (ht : s.Inward t) :
    s.Inward (if p then (s, r) else (t, q)).1 := inward_end ht

end

/-- Every action's effect but that of SET TURNAROUND leaves the host port to the end of the action. -/
theorem inward_action {c : Instr} {effect : State → State × Result} (hc : course c = .action effect)
    (hturn : ∀ n, c ≠ .setTurnaround n) (s : State) : s.Inward (effect s).1 := by
  have whole (t : State) (hp : t.pending = s.pending := by rfl) (hk : t.clock.isSet = s.clock.isSet := by rfl)
      (hl : t.link.configured = s.link.configured := by rfl) (hg : t.segments = s.segments := by rfl)
      (ho : t.port = s.port := by rfl) : s.Inward t := .of_eq hp hk hl hg ho
  cases c with
  | enrol slot segment address zone cls count places =>
    cases hc
    rcases enrolEffect_cases slot segment address zone cls count places s with hend | ⟨-, hend⟩ <;> rw [hend]
    · exact .refl s
    · rw [State.enrolRecord_frame]; exact whole _
  | amend slot selection segment address zone cls count places =>
    cases hc
    rcases amendEffect_cases slot selection segment address zone cls count places s with hend | ⟨r, -, hend⟩ <;> rw [hend]
    · exact .refl s
    · rw [State.applyChanges_frame]; exact whole _
  | retire slot =>
    cases hc
    rcases retireEffect_cases slot s with hend | ⟨r, -, -, ⟨-, hend⟩ | ⟨-, hend⟩⟩ <;> rw [hend]
    · exact .refl s
    · exact inward_setRecord _ _
    · exact inward_freeRecord _ _
  | writeClass => cases hc; exact inward_end (inward_setClass _ _)
  | clearClass => cases hc; exact inward_end (inward_end (inward_end (inward_setClass _ _)))
  | writeZone => cases hc; exact inward_end (inward_setZone _ _)
  | setZoneHold => cases hc; exact inward_end (inward_end (inward_setZone _ _))
  | clearZone => cases hc; exact inward_end (inward_end (inward_setZone _ _))
  | writeSegment => cases hc; exact inward_end (inward_setSegment id)
  | requestTest =>
    cases hc
    unfold requestTestEffect
    split
    · exact .refl s
    · exact inward_onRecord fun i r => inward_end (inward_end (inward_setRecord _ _))
  | cancelRequest => cases hc; exact inward_onRecord fun i r => inward_end (inward_end (inward_setRecord _ _))
  | acceptRepair | revive =>
    cases hc
    refine inward_onRecord fun i r => ?_
    split
    · exact inward_transition _ _ _
    · exact .refl s
  | abortTest =>
    cases hc
    refine inward_onRecord fun i r => ?_
    split
    · exact .refl s
    · exact inward_end (inward_abortChannel _)
  | setClock => 
    cases hc
    refine inward_end (State.Inward.trans ?_ (inward_clockAdvance _))
    exact ⟨⟨rfl, fun _ => rfl, id, fun _ => id⟩, rfl⟩
  | trimClock =>
    cases hc
    exact inward_end (inward_end (inward_setValue _))
  | writeProfile => cases hc; exact inward_end (whole _)
  | addException =>
    cases hc
    unfold addExceptionEffect
    split
    · exact .refl s
    · exact inward_end (inward_end (inward_end (inward_end (whole _))))
  | dropException =>
    cases hc
    unfold dropExceptionEffect
    split
    · exact .refl s
    · split
      · exact whole _
      · exact .refl s
  | setSweep =>
    cases hc
    unfold setSweepEffect
    split
    · exact inward_end (inward_end (whole _))
    · exact .refl s
  | startSweep => cases hc; exact inward_end (inward_end (inward_end (whole _)))
  | setTiming => cases hc; exact whole _
  | configureLink =>
    cases hc
    unfold configureLinkEffect
    split
    · refine inward_end (State.Inward.trans ?_ inward_writeHaltWord)
      exact ⟨⟨rfl, id, fun _ => rfl, fun _ => id⟩, rfl⟩
    · exact .refl s
  | haltSegments => cases hc; exact inward_last (inward_joinHalt _)
  | start => cases hc; exact inward_end (inward_end (inward_end (whole _)))
  | suspend => cases hc; exact inward_end (whole _)
  | resume => cases hc; exact inward_end (whole _)
  | halt =>
    cases hc
    refine inward_end ?_
    split
    · exact whole _
    · dsimp only
      refine State.Inward.trans ?_ (inward_joinHalt _)
      exact whole _
  | setTurnaround n => exact absurd rfl (hturn n)
  | setAttentionLevels =>
    cases hc
    unfold setLevelsEffect
    exact inward_foldl (fun _ _ => inward_setCause _ _) _ _
  | _ => cases hc

/-! ### The host port -/

section
variable {s : State}

theorem remembers_acceptAs {a : Option Instr} (ha : a ≠ some .resetPart) : s.Remembers (s.acceptAs a) := by
  unfold State.acceptAs
  split
  · exact absurd rfl ha
  · split <;> exact .of_port s _
  · split <;> exact .of_port s _

/-- RESET PART is spelled by its code alone (10.5). -/
theorem decodeAction_ne_resetPart {code : Byte} {args : List Byte} (h : code :: args ≠ [0x2F]) :
    decodeAction code args ≠ some .resetPart := fun hd => by
  obtain ⟨-, -, hbytes⟩ := decodeAction_sound hd
  exact h (Option.some.inj hbytes).symm

theorem remembers_acceptBytes {bytes : List Byte} {whole : Bool} (h : bytes ≠ [0x2F] ∨ whole = false) :
    s.Remembers (s.acceptBytes bytes whole) := by
  unfold State.acceptBytes
  split
  · exact .refl s
  next code args =>
    split
    · exact .refl s
    · refine remembers_acceptAs fun ha => ?_
      split at ha
      next hlen =>
        rcases h with h | h
        · exact decodeAction_ne_resetPart h ha
        · rw [h] at hlen; cases hlen.2
      · cases ha
    · exact remembers_acceptAs fun ha => by cases ha

theorem remembers_acceptTransaction {bytes : List Byte} {ending : TransactionEnd}
    (h : ¬(bytes = [0x2F] ∧ ending = .whole)) : s.Remembers (s.acceptTransaction bytes ending) := by
  cases ending with
  | whole => exact remembers_acceptBytes (.inl fun hb => h ⟨hb, rfl⟩)
  | midByte => exact remembers_acceptBytes (.inr rfl)
  | abandoned => exact .refl s

theorem remembers_sampleAttention : s.Remembers s.sampleAttention := by
  unfold State.sampleAttention
  simp only
  split
  · rw [State.clearRead_frame]
    exact ⟨rfl, id, id, fun _ => id⟩
  · exact .of_port s _

end

/-! ### Every command -/

/-- Every course but a part reset's remembers. -/
theorem course_remembers {c : Instr} (hpart : c ≠ .partReset) (hreset : c ≠ .resetPart) (haccept : c ≠ .accept [0x2F] .whole)
    (u : State) : (course c).Keeps u.Remembers u.Remembers := by
  have hport (s : State) (hs : u.Remembers s) (p : Port) : u.Remembers { s with port := p } := hs.trans (.of_port s p)
  have inner {effect : State → State} (heffect : ∀ s : State, s.Inward (effect s)) (s : State) (hs : u.Remembers s) :
      u.Remembers (effect s) := hs.trans (heffect s).toRemembers
  have whole (data : State → List Byte) (s : State) (hs : u.Remembers s) : u.Remembers (sampleEffect data s) := by
    rw [sampleEffect_frame]; exact hport s hs _
  by_cases hact : c.isAction = true
  · obtain ⟨effect, hc⟩ := course_of_isAction hact hreset
    rw [hc]
    intro s hs
    by_cases hturn : ∃ n, c = .setTurnaround n
    · obtain ⟨n, rfl⟩ := hturn
      cases hc
      exact hport s hs _
    · exact hs.trans (inward_action hc (fun n hn => hturn ⟨n, hn⟩) s).toRemembers
  cases c with
  | partReset => exact absurd rfl hpart
  | accept bytes ending =>
    refine fun s hs => (hport s hs _).trans (remembers_acceptTransaction (s := s.leaveStatus) ?_)
    rintro ⟨rfl, rfl⟩
    exact haccept rfl
  | readStatus | walkEnd => exact fun s hs => hport s hs _
  | statusRepetition => exact fun s hs => by rw [State.repeatStatus_frame]; exact hport s hs _
  | readAttention => exact fun s hs => (hport s hs _).trans (remembers_sampleAttention (s := s.leaveStatus))
  | readRecord => exact fun s hs => by rw [readEffect_frame (fun s => s.startRecordWalk_frame _)]; exact hport s hs _
  | walkZone | walkState => exact fun s hs => by rw [readEffect_frame (fun s => s.startWalk_frame _ _)]; exact hport s hs _
  | walkNextImage => exact fun s hs => by rw [State.nextImage_frame]; exact hport s hs _
  | readClock | findAddress | readClass | readZone | readSegment | readProfile | readExceptions | readChannels
  | readCandidates => exact whole _
  | secondTick => exact inner fun _ => inward_tick
  | runExpiry => exact inner fun _ => inward_expireRun _
  | answerExpiry => exact inner fun _ => inward_expireAnswer _
  | stall => exact inner fun _ => inward_raiseStall
  | visit => exact inner fun _ => inward_visitNext
  | passCompletion => exact inner fun _ => inward_finishPass
  | trial => exact inner fun _ => inward_runTrial
  | orderTake =>
    refine inner fun s => ?_
    unfold State.takeOrder
    split
    · exact .refl s
    · exact inward_ite (.of_eq rfl rfl rfl rfl rfl) (.refl s)
  | loopbackTake =>
    refine inner fun s => ?_
    unfold State.takeLoopback
    split
    · exact .refl s
    · exact inward_ite (.of_eq rfl rfl rfl rfl rfl) (.refl s)
  | reportWrite | mainsWordWrite => exact inner fun s => inward_ite (.of_eq rfl rfl rfl rfl rfl) (.refl s)
  | reportTake => exact inner fun _ => inward_takeReport
  | mainsWordTake => exact inner fun _ => inward_takeMains
  | haltTake => exact inner fun _ => inward_takeHalt
  | _ => exact absurd rfl hact

theorem exec_remembers {c : Instr} (hpart : c ≠ .partReset) (hreset : c ≠ .resetPart) (haccept : c ≠ .accept [0x2F] .whole)
    {s t : State} (ht : exec c s = .next t) : s.Remembers t :=
  exec_keeps (P := s.Remembers) (Q := s.Remembers) (fun _ h => h.trans inward_settle.toRemembers)
    (fun u _ h => h.trans (.of_port u _)) (fun u h => h.trans (.of_port u _))
    (course_remembers hpart hreset haccept s) (.refl s) ht

/-- No command stops the part. -/
theorem exec_next (c : Instr) (s : State) : ∃ t, exec c s = .next t := by
  rw [exec_eq_run]
  cases course c with
  | action effect => exact (carryOut_cases c effect s).elim (fun h => ⟨_, h⟩) fun h => ⟨_, h⟩
  | event effect => exact ⟨_, rfl⟩
  | own effect => exact ⟨_, rfl⟩

/-! ### RESET PART (10.6) -/

theorem State.partReset_calm (s : State) : s.partReset.calm = true := by
  have hreset : State.reset.calm = true := by decide
  exact hreset

/-- What the bytes of a RESET PART are accepted as: the reset where they are whole, and of no form otherwise. -/
theorem exec_accept_resetPart {s : State} (hcalm : s.calm = true) (args : List Byte) (whole : Bool) {e : TransactionEnd}
    (he : e = if whole = true then .whole else .midByte) :
    exec (.accept (0x2F#8 :: args) e) s
      = .next (if args = [] ∧ whole = true then s.partReset else s.leaveStatus.acceptAs none) := by
  have hrun : exec (.accept (0x2F#8 :: args) e) s = .next (s.leaveStatus.acceptBytes (0x2F#8 :: args) whole) := by
    rw [exec_of_event rfl, settle_of_calm hcalm, he]
    cases whole <;> rfl
  have haccept : s.leaveStatus.acceptBytes (0x2F#8 :: args) whole
      = s.leaveStatus.acceptAs
        (if args.length = 0 ∧ whole = true then decodeAction 0x2F#8 args else none) := rfl
  rw [hrun, haccept]
  by_cases h : args = [] ∧ whole = true
  · obtain ⟨rfl, rfl⟩ := h
    rfl
  · rw [if_neg h, if_neg (by rwa [List.length_eq_zero_iff])]

end Sys2Proof.Machine

open Sys2Proof.Machine

/-- Settles O1: a step is a match on the queue. -/
theorem stepRunsFrontCommand : Obligations.StepRunsFrontCommand :=
  ⟨fun _ _ _ => rfl, fun s hs => by unfold step; rw [hs]⟩

/-- Settles O2: a part reset keeps the queue by its definition, every other command by what it remembers. -/
theorem everyCommandCompletes : Obligations.EveryCommandCompletes := fun c s => by
  by_cases hpart : c = .partReset
  · subst hpart; exact ⟨_, rfl, rfl⟩
  by_cases hreset : c = .resetPart
  · subst hreset; exact ⟨_, rfl, rfl⟩
  by_cases haccept : c = .accept [0x2F] .whole
  · subst haccept
    have hsettle : s.settle.pending = s.pending := (inward_settle (s := s)).pending
    exact ⟨s.settle.leaveStatus.partReset, rfl, hsettle⟩
  obtain ⟨t, ht⟩ := exec_next c s
  exact ⟨t, ht, (exec_remembers hpart hreset haccept ht).pending⟩

/-- Settles O60: the relation `Inward`, which every command but a part reset keeps, says it of the clock, the link
and the mains. -/
theorem onlyPartResetForgets : Obligations.OnlyPartResetForgets := fun _ _ _ hpart hreset haccept ht =>
  let h := exec_remembers hpart hreset haccept ht
  ⟨h.clock, h.link, h.mains⟩

/-- Settles O3: once the stall and the expiries are handled none is due, for every fresh timer is above 0. -/
theorem expiriesComeFirst : Obligations.ExpiriesComeFirst := fun s htime => by
  refine ⟨State.settle_calm htime, settle_of_calm, fun c hrun hanswer hstall => ?_⟩
  have htwice : s.settle.settle = s.settle := settle_of_calm (State.settle_calm htime)
  have hpending : s.settle.pending = s.pending := (inward_settle (s := s)).pending
  cases hc : course c with
  | action effect => rw [exec_of_action hc, exec_of_action hc, carryOut, carryOut, htwice]
  | event effect => rw [exec_of_event hc, exec_of_event hc, htwice]
  | own effect =>
    cases c with
    | runExpiry k => exact absurd rfl (hrun k)
    | answerExpiry k => exact absurd rfl (hanswer k)
    | stall => exact absurd rfl hstall
    | resetPart | partReset =>
      rw [exec_of_own rfl, exec_of_own rfl, State.partReset, State.partReset, hpending]
    | _ => cases hc

/-- Settles O4: the effect leaves the port, and the end of the action writes its result with nothing in hand. -/
theorem actions : Obligations.Actions := by
  refine ⟨fun c s hact hreset hready => ?_, fun c a s hact hreset hcalm hhand hne => ?_⟩
  · obtain ⟨effect, hc⟩ := course_of_isAction hact hreset
    refine ⟨_, (exec_of_action hc s).trans (carryOut_ready hready), rfl, fun hturn => ?_, fun ⟨n, hn⟩ => ?_⟩
    · have hport := (inward_action hc hturn s).port
      rw [State.finish]
      dsimp only
      rw [hport]
    · subst hn
      cases hc
      rfl
  · obtain ⟨effect, hc⟩ := course_of_isAction hact hreset
    exact (exec_of_action hc s).trans (carryOut_dropped hcalm hhand hne)

/-- Settles O5: every table of the reset state is empty and every register is written out. -/
theorem resetValues : Obligations.ResetValues := by
  refine ⟨fun _ => rfl, fun _ => rfl, fun _ => rfl, fun _ => rfl, fun _ _ => rfl, rfl, fun p slot => ?_, rfl, rfl,
    fun _ => rfl, rfl, rfl, rfl, rfl, rfl, rfl, rfl, rfl, rfl, rfl, rfl, rfl, rfl, fun c => ?_, rfl, by decide, rfl⟩
  · show (0#336).getMsbD slot = false
    exact BitVec.getMsbD_zero
  · cases c <;> rfl

/-- Settles O6: each of the resets by its definition, and after one the port has sampled nothing. -/
theorem partReset : Obligations.PartReset := by
  refine ⟨fun s => ⟨rfl, rfl, fun hcalm => ?_, fun args e hcalm hwhole hwrong => ?_⟩, fun s t ht => ?_⟩
  · exact exec_accept_resetPart hcalm [] true rfl
  · obtain ⟨whole, he⟩ : ∃ whole : Bool, e = if whole = true then .whole else .midByte := by
      cases e with
      | whole => exact ⟨true, rfl⟩
      | midByte => exact ⟨false, rfl⟩
      | abandoned => exact absurd rfl hwhole
    have hnot : ¬(args = [] ∧ whole = true) := by
      rintro ⟨hargs, rfl⟩
      rcases hwrong with h | h
      · exact h hargs
      · rw [h] at he; cases he
    rw [exec_accept_resetPart hcalm args whole he, if_neg hnot]
    rfl
  · have ht : t = s.partReset := by cases ht; rfl
    subst ht
    have hcalm := s.partReset_calm
    refine ⟨fun n => List.getD_nil, ?_, ?_, fun bytes => ?_⟩
    · exact event_calm hcalm
    · exact event_calm hcalm
    · exact event_calm (effect := fun t => t.leaveStatus.acceptTransaction bytes .abandoned) hcalm

end

section
/-! PROOF. The register's commands one by one (chapters 01 and 04): which condition ends each, and what it writes where
none does. -/

namespace Sys2Proof.Machine

/-! ### An action's conditions, examined in order -/

section
variable {c : Instr} {effect : State → State × Result} {s : State}

theorem exec_of_effect (hc : course c = .action effect) (h : Ready c s) {t : State} {r : Result}
    (he : effect s = (t, r)) : exec c s = .next (t.finish r) := by
  rw [exec_of_action hc, carryOut_ready h, he]

theorem completes_of_effect (hc : course c = .action effect) (h : Ready c s) {t : State} {r : Result}
    {post : State → Prop} (he : effect s = (t, r)) (hp : post (t.finish r)) : Completes c s post :=
  completes_of_eq (exec_of_effect hc h he) hp

/-- One condition of an action: it ends the action where it holds, and the next is examined where it does not. -/
theorem examined_cons (hc : course c = .action effect) (h : Ready c s) {p q : Prop} [Decidable p] {r : Result}
    {b : State × Result} {l : List (Prop × Result)} {final : Prop} (he : effect s = if p then (s, r) else b)
    (hq : q ↔ p) (hrest : ¬q → effect s = b → Examined l (EndsWith c s) final) :
    Examined ((q, r) :: l) (EndsWith c s) final :=
  ⟨fun hyes => exec_of_effect hc h (he.trans (if_pos (hq.mp hyes))),
    fun hno => hrest hno (he.trans (if_neg (mt hq.mpr hno)))⟩

/-- The condition that a slot is FREE, for an action on the record there. -/
theorem examined_enrolled (hc : course c = .action effect) (h : Ready c s) {o : Option Record} {r : Result}
    {f : Record → State × Result} {l : List (Prop × Result)} {final : Prop} (he : effect s = o.elim (s, r) f)
    (hrest : ∀ x, o = some x → effect s = f x → Examined l (EndsWith c s) final) :
    Examined ((o = none, r) :: l) (EndsWith c s) final := by
  cases o with
  | none => exact ⟨fun _ => exec_of_effect hc h he, fun hno => absurd rfl hno⟩
  | some x => exact ⟨(fun hno => by cases hno), fun _ => hrest x rfl he⟩

/-- The two conditions that every command on a record examines first. -/
theorem examined_onRecord {slot : Half} {f : State → Nat → Record → State × Result}
    (hc : course c = .action effect) (h : Ready c s) {l : List (Prop × Result)} {final : Prop}
    (he : effect s = onRecord slot f s)
    (hrest : ∀ x, slot.toNat < 4096 → s.record? slot.toNat = some x → effect s = f s slot.toNat x →
      Examined l (EndsWith c s) final) :
    Examined ((4095 < slot.toNat, .outOfRange) :: (s.record? slot.toNat = none, .notEnrolled) :: l) (EndsWith c s)
      final := by
  have hrun : effect s = if Config.slotCount ≤ slot.toNat then (s, .outOfRange)
      else (s.record? slot.toNat).elim (s, .notEnrolled) (f s slot.toNat) := by
    rw [he]
    unfold onRecord
    cases s.record? slot.toNat <;> rfl
  exact examined_cons hc h hrun Iff.rfl fun hslot he =>
    examined_enrolled hc h he fun x hx he => hrest x (Nat.lt_of_not_le hslot) hx he

end

/-- A record's own condition, where the record is known. -/
theorem exists_record_iff {s : State} {i : Nat} {r : Record} (hr : s.record? i = some r) {p : Record → Prop} :
    (∃ q, s.record? i = some q ∧ p q) ↔ p r :=
  ⟨fun ⟨q, hq, hp⟩ => by cases hr.symm.trans hq; exact hp, fun hp => ⟨r, hr, hp⟩⟩

theorem flagOf_iff (b : Byte) : flagOf b = true ↔ b ≠ 0 := by
  simp only [flagOf, bne_iff_ne, ne_eq, not_iff_not]
  exact ⟨fun h => BitVec.eq_of_toNat_eq h, fun h => by rw [h]; rfl⟩

theorem clampTo_eq_ite {lo hi v : Nat} (h : lo ≤ hi) :
    clampTo lo hi v = if v < lo then lo else if hi < v then hi else v := by
  unfold clampTo
  split
  · omega
  · split <;> omega

theorem clamps_iff {lo hi v : Nat} : clamps lo hi v = true ↔ v < lo ∨ hi < v := by simp [clamps]

theorem doneOr_eq_ite {b : Bool} {p : Prop} [Decidable p] (h : b = true ↔ p) :
    doneOr b = if p then .doneClamped else .done := by
  unfold doneOr
  by_cases hp : p
  · rw [if_pos hp, if_pos (h.mpr hp)]
  · rw [if_neg hp, if_neg (mt h.mp hp)]

theorem RecordState.inTest_iff {st : RecordState} : st.inTest = true ↔ st = .ordered ∨ st = .testing := by
  cases st <;> decide

section
variable (s : State) (r : Result)

@[simp] theorem State.finish_record? (i : Nat) : (s.finish r).record? i = s.record? i := rfl
@[simp] theorem State.finish_classAt (c : Nat) : (s.finish r).classAt c = s.classAt c := rfl
@[simp] theorem State.finish_zoneAt (z : Nat) : (s.finish r).zoneAt z = s.zoneAt z := rfl
@[simp] theorem State.finish_segmentAt (g : Nat) : (s.finish r).segmentAt g = s.segmentAt g := rfl
@[simp] theorem State.finish_channelAt (n : Nat) : (s.finish r).channelAt n = s.channelAt n := rfl
@[simp] theorem State.finish_locate (g a : Nat) : (s.finish r).locate g a = s.locate g a := rfl
@[simp] theorem State.finish_causeAt (c : Cause) : (s.finish r).causeAt c = s.causeAt c := rfl
@[simp] theorem State.finish_profileAt (p : Nat) : (s.finish r).profileAt p = s.profileAt p := rfl

end

/-! ### ENROL (R18, R19) -/

theorem placesOutOfRange_iff {n : Nat} {places : List Half} :
    placesOutOfRange n places = true ↔ 6 < n ∨ ∃ m ∈ placesGiven n places, 4095 < m := by
  simp only [placesOutOfRange, Bool.or_eq_true, decide_eq_true_iff, List.any_eq_true]
  rfl

theorem placesOutOfRange_eq_false {n : Nat} {places : List Half} (hn : ¬6 < n)
    (hplaces : ∀ m ∈ placesGiven n places, ¬4095 < m) : placesOutOfRange n places = false := by
  rw [← Bool.not_eq_true, placesOutOfRange_iff]
  rintro (h | ⟨m, hm, h⟩)
  · exact hn h
  · exact hplaces m hm h

section
variable {s : State} {i : Nat} {l : List Nat}

theorem State.neighboursInvalid_iff :
    s.neighboursInvalid i l = true ↔ (∃ n ∈ l, s.record? n = none) ∨ i ∈ l ∨ ¬l.Nodup := by
  simp only [State.neighboursInvalid, State.isFree, Bool.or_eq_true, List.any_eq_true, Option.isNone_iff_eq_none,
    beq_iff_eq, Bool.not_eq_true', decide_eq_false_iff_not]
  constructor
  · rintro (⟨n, hn, hfree | rfl⟩ | hdup)
    · exact .inl ⟨n, hn, hfree⟩
    · exact .inr (.inl hn)
    · exact .inr (.inr hdup)
  · rintro (⟨n, hn, hfree⟩ | hi | hdup)
    · exact .inl ⟨n, hn, .inl hfree⟩
    · exact .inl ⟨i, hi, .inr rfl⟩
    · exact .inr hdup

theorem State.neighbourFull_iff {n : Nat} :
    s.neighbourFull n = true ↔ ∃ r, s.record? n = some r ∧ 6 ≤ r.neighbours.length := by
  unfold State.neighbourFull
  cases hr : s.record? n with
  | none => simp
  | some r =>
    simp only [Config.neighbourLimit, Option.some.injEq, exists_eq_left']
    exact decide_eq_true_iff

theorem State.any_neighbourFull_iff :
    l.any s.neighbourFull = true ↔ ∃ n ∈ l, ∃ r, s.record? n = some r ∧ 6 ≤ r.neighbours.length := by
  simp only [List.any_eq_true, State.neighbourFull_iff]

theorem State.classDefined_eq_false {c : Nat} : s.classDefined c = false ↔ (s.classAt c).figures = none := by
  simp [State.classDefined]

theorem State.isFree_eq_false : s.isFree i = false ↔ s.record? i ≠ none := by
  simp [State.isFree, Option.ne_none_iff_isSome]

theorem State.now_of_set (h : s.clock.isSet = true) : s.now = s.clock.value := if_pos h

end

/-! ### The class, zone and segment tables -/

theorem Figures.clamped_ordered_ne_iff (f : Figures) :
    f.clamped.ordered ≠ f
      ↔ f.functionLength < 10 ∨ 600 < f.functionLength ∨ f.ratedDuration < 30 ∨ 240 < f.ratedDuration
        ∨ f.functionInterval < 1 ∨ 92 < f.functionInterval ∨ f.durationInterval < 30 ∨ 730 < f.durationInterval
        ∨ 30 < f.earlyWindow ∨ 60 < f.grace ∨ f.rechargeFactor < 16 ∨ 255 < f.rechargeFactor ∨ 1440 < f.rechargeMin
        ∨ f.rechargeMax < 60 ∨ 4320 < f.rechargeMax ∨ max 60 (min f.rechargeMax 4320) < min f.rechargeMin 1440 := by
  obtain ⟨fl, rd, fi, di, ew, gr, rf, rmin, rmax⟩ := f
  simp only [Figures.ordered, Figures.clamped, clampTo, ne_eq, Figures.mk.injEq]
  omega

/-! ### Requests, repair and revival -/

theorem kindOfCode_eq_none {b : Byte} : kindOfCode b = none ↔ b ≠ 0 ∧ b ≠ 1 := by
  revert b
  decide

theorem kindOfCode_ne_zero {b : Byte} (hb : b ≠ 0) {k : Kind} (h : kindOfCode b = some k) : k = .duration := by
  revert b k
  decide

/-- The code a kind was read from, told by whether it is 0. -/
theorem kindOfCode_spelt {b : Byte} {k x : Kind} (h : kindOfCode b = some k) : (x = .function ↔ b = 0) ↔ x = k := by
  by_cases h0 : b = 0
  · subst h0
    cases h
    exact iff_of_eq (by rw [eq_self, iff_true])
  · have hk : k = .duration := kindOfCode_ne_zero h0 h
    subst hk
    cases x with
    | function => exact ⟨fun h => absurd (h.mp rfl) h0, fun h => by cases h⟩
    | duration => exact ⟨fun _ => rfl, fun _ => ⟨(fun h => by cases h), fun h => absurd h h0⟩⟩

/-- A record that leaves FAULTY or SILENT for READY: the slot, and its zone one fewer uncovered (R9). -/
theorem State.transition_readied {s : State} {i : Nat} (r q : Record) {x : Result} (hr : r.state ≠ .ready)
    (hq : q.state = .ready) (hz : q.zone = r.zone) :
    let t := (s.transition i r q).finish x
    t.record? i = some q ∧ (∀ n, n ≠ i → t.record? n = s.record? n)
      ∧ t.zoneAt r.zone = { s.zoneAt r.zone with uncovered := (s.zoneAt r.zone).uncovered - 1 }
      ∧ (∀ z, z ≠ r.zone → t.zoneAt z = s.zoneAt z)
      ∧ t = { s with luminaires := t.luminaires, zones := t.zones, port := (s.finish x).port } := by
  refine ⟨?_, fun n hn => ?_, ?_, fun z hzne => ?_, ?_⟩
  · exact (s.transition_record? i r q i).trans (if_pos rfl)
  · exact (s.transition_record? i r q n).trans (if_neg (Ne.symm hn))
  · refine (s.transition_zoneAt i r q r.zone).trans ((if_pos hz).trans ?_)
    rw [Zone.recount, RecordState.uncoveredCount_eq, RecordState.uncoveredCount_eq, hq, if_neg hr]
    rfl
  · exact (s.transition_zoneAt i r q z).trans (if_neg (by rw [hz]; exact Ne.symm hzne))
  · rw [State.transition_frame]; rfl

end Sys2Proof.Machine

open Sys2Proof.Machine

/-- Settles O12: the conditions one after another, and the enrolment's effect by the rules of linking, zones, classes
and lookup. -/
theorem enrol : Obligations.Enrol := by
  intro slot segment address zone cls count places s c i l hready
  have hc : course c = .action (enrolEffect slot segment address zone cls count places) := rfl
  refine examined_cons hc hready rfl (by rw [placesOutOfRange_iff]; rfl) fun hrange he => ?_
  refine examined_cons hc hready he State.isFree_eq_false.symm fun hfree he => ?_
  refine examined_cons hc hready he State.classDefined_eq_false.symm fun hclass he => ?_
  refine examined_cons hc hready he Iff.rfl fun hzone he => ?_
  refine examined_cons hc hready he Option.ne_none_iff_isSome fun hlocation he => ?_
  refine examined_cons hc hready he State.neighboursInvalid_iff.symm fun hvalid he => ?_
  refine examined_cons hc hready he State.any_neighbourFull_iff.symm fun hroom he => ?_
  refine examined_cons hc hready he Iff.rfl fun hset he => ?_
  refine completes_of_effect hc hready he ?_
  simp only [not_or, not_not, not_exists, not_and] at hrange hvalid hfree
  obtain ⟨-, -, -, hcount, hplaces⟩ := hrange
  obtain ⟨henrolled, hother, hnodup⟩ := hvalid
  have hfit : s.ListFits i l :=
    { short := placesGiven_length (placesOutOfRange_eq_false hcount hplaces)
      enrolled := fun n hn => Option.ne_none_iff_exists'.mp (henrolled n hn)
      other := hother
      nodup := hnodup }
  have hset : s.clock.isSet = true := Bool.not_eq_false _ |>.mp hset
  let r := s.newRecord segment.toNat address.toNat zone.toNat cls.toNat l
  have hreads (j : Nat) := State.enrolRecord_record? (s := s) (r := r) hfit j
  have hkey (g a : Nat) := s.enrolRecord_locate i r g a
  refine ⟨?_, fun n hn q hq => ?_, fun n hni hnl => ?_, ?_, fun z hz => ?_, ?_, fun k hk => ?_, ?_, fun g a ha hne => ?_, ?_⟩
  · refine (hreads i).trans ((if_pos rfl).trans ?_)
    show some (s.newRecord _ _ _ _ _) = _
    rw [State.newRecord, State.now_of_set hset]
  · have hni : n ≠ i := fun h => hother (h ▸ hn)
    exact (hreads n).trans ((if_neg hni).trans ((if_pos hn).trans (by rw [hq]; rfl)))
  · exact (hreads n).trans ((if_neg hni).trans (if_neg hnl))
  · exact (s.enrolRecord_zoneAt i r zone.toNat).trans (if_pos rfl)
  · exact (s.enrolRecord_zoneAt i r z).trans (if_neg hz)
  · exact (s.enrolRecord_classAt i r cls.toNat).trans (if_pos rfl)
  · exact (s.enrolRecord_classAt i r k).trans (if_neg hk)
  · exact (hkey _ _).trans (if_pos rfl)
  · refine (hkey g a).trans (if_neg fun hkeys => hne ?_)
    obtain ⟨h1, h2⟩ := (locationKey_inj address.isLt ha).mp hkeys
    exact ⟨h1.symm, h2.symm⟩
  · rw [State.enrolRecord_frame]; rfl

/-- Settles O14: the conditions one after another, and the freeing by its rules on records, zones, classes and
lookup. -/
theorem retireAndFree : Obligations.RetireAndFree := by
  constructor
  · intro slot s c i hready
    have hc : course c = .action (retireEffect slot) := rfl
    refine examined_onRecord hc hready
      (f := fun s i r =>
        if r.retirePending then (s, .noEffect)
        else if r.state.inTest then (s.setRecord i { r with retirePending := true }, .deferred)
        else (s.freeRecord i r, .done))
      rfl fun r hslot hr he => ?_
    refine examined_cons hc hready he (exists_record_iff hr) fun hpending he q hq => ?_
    cases hr.symm.trans hq
    refine ⟨fun hin => ?_, fun hout => ?_⟩
    · refine completes_of_effect hc hready (he.trans (if_pos (RecordState.inTest_iff.mpr hin))) ⟨?_, fun n hn => ?_, rfl⟩
      · exact s.setRecord_record?_self i _
      · exact (s.setRecord_record? i _ n).trans (if_neg (Ne.symm hn))
    · exact completes_of_effect hc hready (he.trans (if_neg (mt RecordState.inTest_iff.mp hout))) rfl
  · intro s i r hr t
    have hreads (j : Nat) := s.freeRecord_record? i r j
    refine ⟨?_, fun n q hni hq hn => ?_, fun n hni hn => ?_, fun n hn => ?_, ?_, fun z hz => ?_, ?_, fun k hk => ?_, ?_,
      fun haddress g a ha hne => ?_, s.freeRecord_frame i r⟩
    · exact (hreads i).trans (if_pos rfl)
    · exact (hreads n).trans ((if_neg hni).trans ((if_pos hn).trans (by rw [hq]; rfl)))
    · exact (hreads n).trans ((if_neg hni).trans (if_neg hn))
    · rw [hreads, hn]
      split
      · rfl
      · split <;> rfl
    · refine (s.freeRecord_zoneAt i r r.zone).trans ((if_pos rfl).trans ?_)
      rw [Zone.leave, RecordState.uncoveredCount_eq]
    · exact (s.freeRecord_zoneAt i r z).trans (if_neg hz)
    · exact (s.freeRecord_classAt i r r.cls).trans (if_pos rfl)
    · exact (s.freeRecord_classAt i r k).trans (if_neg hk)
    · exact (s.freeRecord_locate i r r.segment r.address).trans (if_pos rfl)
    · refine (s.freeRecord_locate i r g a).trans (if_neg fun hkeys => hne ?_)
      obtain ⟨hg, ha⟩ := (locationKey_inj haddress ha).mp hkeys
      exact ⟨hg.symm, ha.symm⟩

/-- Settles O15: each figure's clamp by `clampTo`, and each command's one entry by the rule of its write. -/
theorem classCommands : Obligations.ClassCommands := by
  constructor
  · intro cls fl rd fi di ew gr rf rmin rmax s c top clamped hready
    have hc : course c = .action (writeClassEffect cls (carriedFigures fl rd fi di ew gr rf rmin rmax)) := rfl
    refine examined_cons hc hready rfl Iff.rfl fun hcls he => ?_
    have hclamped : (carriedFigures fl rd fi di ew gr rf rmin rmax).clamped.ordered
        ≠ carriedFigures fl rd fi di ew gr rf rmin rmax ↔ clamped := by
      have hfactor : ¬255 < rf.toNat := Nat.not_lt.mpr (Nat.le_of_lt_succ rf.isLt)
      rw [Figures.clamped_ordered_ne_iff]
      simp only [carriedFigures, hfactor, false_or]
      rfl
    refine completes_of_effect hc hready he ⟨?_, fun k hk => ?_, fun h => ?_, fun h => ?_, rfl⟩
    · rw [State.finish_classAt, State.setClass_classAt_self]
      have hfactor : rf.toNat ≤ 255 := Nat.le_of_lt_succ rf.isLt
      simp only [Figures.ordered, Figures.clamped, carriedFigures, clampTo, Nat.zero_max, Nat.min_eq_left hfactor]
      rfl
    · rw [State.finish_classAt, State.setClass_classAt, if_neg (Ne.symm hk)]
    · rw [doneOr, if_pos (decide_eq_true (hclamped.mpr h))]
      rfl
    · rw [doneOr, if_neg (by rw [decide_eq_true_iff]; exact mt hclamped.mp h)]
      rfl
  · intro cls s c hready
    have hc : course c = .action (clearClassEffect cls) := rfl
    refine examined_cons hc hready rfl Iff.rfl fun hcls he => ?_
    refine examined_cons hc hready he State.classDefined_eq_false.symm fun hdefined he => ?_
    refine examined_cons hc hready he Iff.rfl fun hunused he => ?_
    refine completes_of_effect hc hready he ⟨?_, fun k hk => ?_, rfl⟩
    · rw [State.finish_classAt, State.setClass_classAt_self]
      rw [← Nat.eq_zero_of_not_pos hunused]
    · rw [State.finish_classAt, State.setClass_classAt, if_neg (Ne.symm hk)]

/-- Settles O16: the conditions one after another, and each command's one entry by the rule of its write. -/
theorem zoneAndSegmentCommands : Obligations.ZoneAndSegmentCommands := by
  constructor
  on_goal 1 => intro zone s z; refine ⟨?_, ?_, ?_⟩
  · intro profile percent c hready
    have hc : course c = .action (writeZoneEffect zone profile percent) := rfl
    refine examined_cons hc hready rfl Iff.rfl fun hprofile he => ?_
    refine completes_of_effect hc hready he ⟨?_, fun y hy => ?_, ?_⟩
    · rw [State.finish_zoneAt, State.setZone_zoneAt_self]
      rw [clampTo_eq_ite (by decide)]
      simp only [Nat.lt_one_iff]
      rfl
    · rw [State.finish_zoneAt, State.setZone_zoneAt, if_neg (Ne.symm hy)]
    · rw [doneOr_eq_ite (clamps_iff.trans (by rw [Nat.lt_one_iff]))]
      rfl
  · intro flag c hready
    have hc : course c = .action (setZoneHoldEffect zone flag) := rfl
    refine examined_cons hc hready rfl Iff.rfl fun hdefined he => ?_
    have hsame : ((s.zoneAt z).held = true ↔ flag ≠ 0) ↔ (s.zoneAt z).held = flagOf flag := by
      rw [← flagOf_iff, ← Bool.eq_iff_iff]
    refine examined_cons hc hready he hsame fun hne he => ?_
    refine completes_of_effect hc hready he ⟨⟨flagOf flag, flagOf_iff flag, ?_⟩, fun y hy => ?_, rfl⟩
    · rw [State.finish_zoneAt, State.setZone_zoneAt_self]
    · rw [State.finish_zoneAt, State.setZone_zoneAt, if_neg (Ne.symm hy)]
  · intro hready
    have hc : course (.clearZone zone) = .action (clearZoneEffect zone) := rfl
    refine examined_cons hc hready rfl Iff.rfl fun hdefined he => ?_
    refine examined_cons hc hready he Iff.rfl fun hempty he => ?_
    refine completes_of_effect hc hready he ⟨?_, fun y hy => ?_, rfl⟩
    · rw [State.finish_zoneAt, State.setZone_zoneAt_self]
      rw [← Nat.eq_zero_of_not_pos hempty]
    · rw [State.finish_zoneAt, State.setZone_zoneAt, if_neg (Ne.symm hy)]
  · intro segment enabled cap s c hready
    have hc : course c = .action (writeSegmentEffect segment enabled cap) := rfl
    refine examined_cons hc hready rfl Iff.rfl fun hsegment he => ?_
    refine completes_of_effect hc hready he ⟨⟨flagOf enabled, flagOf_iff enabled, ?_⟩, fun g hg => ?_, ?_⟩
    · rw [State.finish_segmentAt, State.setSegment_segmentAt_self]
      rw [clampTo_eq_ite (by decide)]
      simp only [Nat.lt_one_iff]
    · rw [State.finish_segmentAt, State.setSegment_segmentAt, if_neg (Ne.symm hg)]
    · rw [doneOr_eq_ite (clamps_iff.trans (by rw [Nat.lt_one_iff]))]
      rfl

/-- Settles O17: the conditions of a command on a record, and its write or its change of state with the zone's count
following. -/
theorem requestsRepairRevival : Obligations.RequestsRepairRevival := by
  constructor
  on_goal 1 => intro slot s i; refine ⟨?_, ?_⟩
  on_goal 3 => intro slot s i; refine ⟨?_, ?_⟩
  · intro kind c hready
    have hc : course c = .action (requestTestEffect slot kind) := rfl
    cases hk : kindOfCode kind with
    | none =>
      refine ⟨fun _ => exec_of_effect hc hready ?_, fun hno => absurd (.inr (kindOfCode_eq_none.mp hk)) hno⟩
      rw [requestTestEffect, hk]
    | some k =>
      have hkind : ¬(kind ≠ 0 ∧ kind ≠ 1) := fun h => by cases (kindOfCode_eq_none.mpr h).symm.trans hk
      have hcode {x : Kind} : (x = .function ↔ kind = 0) ↔ x = k := kindOfCode_spelt hk
      have he : requestTestEffect slot kind s
          = onRecord slot
            (fun s i r =>
              if r.retirePending then (s, .wrongState)
              else if r.requested = some k then (s, .noEffect)
              else (s.setRecord i { r with requested := some k }, .done)) s := by
        rw [requestTestEffect, hk]
      rw [or_iff_left hkind]
      refine examined_onRecord hc hready he fun r _ hr he => ?_
      refine examined_cons hc hready he (exists_record_iff hr) fun hpending he => ?_
      have hsame : (∃ q x, s.record? i = some q ∧ q.requested = some x ∧ (x = .function ↔ kind = 0))
          ↔ r.requested = some k := by
        refine ⟨fun ⟨q, x, hq, hx, hspelt⟩ => ?_, fun h => ⟨r, k, hr, h, hcode.mpr rfl⟩⟩
        cases hr.symm.trans hq
        rw [hx, hcode.mp hspelt]
      refine examined_cons hc hready he hsame fun hrequest he q x hq hx => ?_
      cases hr.symm.trans hq
      cases hcode.mp hx
      refine completes_of_effect hc hready he ⟨s.setRecord_record?_self i _, fun n hn => ?_, rfl⟩
      exact (s.setRecord_record? i _ n).trans (if_neg (Ne.symm hn))
  · intro hready
    have hc : course (.cancelRequest slot) = .action (cancelRequestEffect slot) := rfl
    refine examined_onRecord hc hready rfl fun r _ hr he => ?_
    refine examined_cons hc hready he (exists_record_iff hr) fun hpending he => ?_
    refine examined_cons hc hready he (exists_record_iff hr) fun hrequest he q hq => ?_
    cases hr.symm.trans hq
    refine completes_of_effect hc hready he ⟨s.setRecord_record?_self i _, fun n hn => ?_, rfl⟩
    exact (s.setRecord_record? i _ n).trans (if_neg (Ne.symm hn))
  · intro hready
    have hc : course (.acceptRepair slot) = .action (acceptRepairEffect slot) := rfl
    refine examined_onRecord hc hready rfl fun r _ hr he => ?_
    rw [← ite_not] at he
    refine examined_cons hc hready he (exists_record_iff hr) fun hstate he q hq => ?_
    have hfaulty : r.state = .faulty := not_not.mp (mt (exists_record_iff hr (p := fun q => q.state ≠ .faulty)).mpr hstate)
    cases hr.symm.trans hq
    exact completes_of_effect hc hready he
      (State.transition_readied r { r with state := .ready, hold := none, requested := some .duration }
        (by rw [hfaulty]; decide) rfl rfl)
  · intro hready
    have hc : course (.revive slot) = .action (reviveEffect slot) := rfl
    refine examined_onRecord hc hready rfl fun r _ hr he => ?_
    rw [← ite_not] at he
    refine examined_cons hc hready he (exists_record_iff hr) fun hstate he q hq => ?_
    have hsilent : r.state = .silent := not_not.mp (mt (exists_record_iff hr (p := fun q => q.state ≠ .silent)).mpr hstate)
    cases hr.symm.trans hq
    exact completes_of_effect hc hready he
      (State.transition_readied r { r with state := .ready, hold := none, noAnswer := 0 }
        (by rw [hsilent]; decide) rfl rfl)

end

section
/-! PROOF. AMEND (R20 to R23): its conditions in their order, and what its changes leave in the tables. -/

namespace Sys2Proof.Machine

section
variable {s : State} {i : Nat} {r : Record} {l : List Nat}

/-! ### The change of NEIGHBOURS, for any list of the record -/

theorem State.amendNeighbours_record?_self (hl : l.Nodup) (hi : i ∉ l) :
    (s.amendNeighbours i r (some l)).record? i = some { r with neighbours := l } := by
  have hkept : l.filter (fun m => m != i) = l :=
    List.filter_eq_self.mpr fun m hm => bne_iff_ne.mpr fun he => hi (he ▸ hm)
  have hnew : (added r.neighbours l).Nodup := hl.filter _
  show (((s.setRecord i { r with neighbours := l }).unlinkAll i (added l r.neighbours)).linkAll i
    (added r.neighbours l)).record? i = _
  rw [State.linkAll_record? _ i hnew, if_neg fun h => hi (mem_added.mp h).1, State.unlinkAll_record?,
    State.setRecord_record?_self, Option.map_some, hkept, ite_self]

theorem State.amendNeighbours_record?_ne (hl : l.Nodup) {j : Nat} (hj : i ≠ j) :
    (s.amendNeighbours i r (some l)).record? j
      = if j ∈ l ∧ j ∉ r.neighbours then (s.record? j).map fun q => { q with neighbours := q.neighbours ++ [i] }
        else if j ∈ r.neighbours ∧ j ∉ l then
          (s.record? j).map fun q => { q with neighbours := q.neighbours.filter fun m => m != i }
        else s.record? j := by
  have hnew : (added r.neighbours l).Nodup := hl.filter _
  show (((s.setRecord i { r with neighbours := l }).unlinkAll i (added l r.neighbours)).linkAll i
    (added r.neighbours l)).record? j = _
  rw [State.linkAll_record? _ i hnew, State.unlinkAll_record?, State.setRecord_record?, if_neg hj]
  simp only [mem_added]
  by_cases hgain : j ∈ l ∧ j ∉ r.neighbours
  · rw [if_pos hgain, if_neg (by tauto), if_pos hgain]
  · rw [if_neg hgain, if_neg hgain]

/-! ### Each table after the changes -/

/-- The amended record, each field by itself. -/
theorem Record.amended_eq (r : Record) (ch : Changes) :
    (r.placed ch).relinked ch.neighbours
      = { r with
          segment := (ch.location.map Prod.fst).getD r.segment
          address := (ch.location.map Prod.snd).getD r.address
          zone := ch.zone.getD r.zone
          cls := ch.cls.getD r.cls
          neighbours := ch.neighbours.getD r.neighbours } := by
  obtain ⟨location, zone, cls, neighbours⟩ := ch
  cases location <;> cases zone <;> cases cls <;> cases neighbours <;> rfl

theorem State.applyChanges_record?_self (hr : s.record? i = some r) {ch : Changes}
    (hlist : ∀ l, ch.neighbours = some l → l.Nodup ∧ i ∉ l) :
    (s.applyChanges i r ch).record? i = some ((r.placed ch).relinked ch.neighbours) := by
  rw [State.applyChanges_eq hr]
  cases hn : ch.neighbours with
  | none => exact (State.placeChanges_record? hr ch i).trans (if_pos rfl)
  | some l =>
    obtain ⟨hl, hi⟩ := hlist l hn
    exact State.amendNeighbours_record?_self hl hi

theorem State.applyChanges_record?_keep (hr : s.record? i = some r) {ch : Changes} (hn : ch.neighbours = none) {j : Nat}
    (hj : i ≠ j) : (s.applyChanges i r ch).record? j = s.record? j := by
  rw [State.applyChanges_eq hr, hn]
  exact (State.placeChanges_record? hr ch j).trans (if_neg hj)

theorem State.applyChanges_record?_relink (hr : s.record? i = some r) {ch : Changes} (hn : ch.neighbours = some l)
    (hl : l.Nodup) {j : Nat} (hj : i ≠ j) :
    (s.applyChanges i r ch).record? j
      = if j ∈ l ∧ j ∉ r.neighbours then (s.record? j).map fun q => { q with neighbours := q.neighbours ++ [i] }
        else if j ∈ r.neighbours ∧ j ∉ l then
          (s.record? j).map fun q => { q with neighbours := q.neighbours.filter fun m => m != i }
        else s.record? j := by
  rw [State.applyChanges_eq hr, hn, State.amendNeighbours_record?_ne hl hj, State.placeChanges_record? hr ch, if_neg hj,
    Record.placed_neighbours]

theorem State.amendZone_zones_congr {t : State} {q : Record} (ht : t.zones = s.zones) (hz : q.zone = r.zone)
    (hst : q.state = r.state) (o : Option Nat) : (t.amendZone i q o).zones = (s.amendZone i r o).zones := by
  cases o with
  | none => exact ht
  | some z =>
    simp only [State.amendZone, State.joinZone, State.leaveZone, State.setZone, State.setRecord, State.zoneAt, ht, hz, hst]

theorem State.amendClass_classes_congr {t : State} {q : Record} (ht : t.classes = s.classes) (hc : q.cls = r.cls)
    (o : Option Nat) : (t.amendClass i q o).classes = (s.amendClass i r o).classes := by
  cases o with
  | none => exact ht
  | some c =>
    simp only [State.amendClass, State.joinClass, State.leaveClass, State.setClass, State.setRecord, State.classAt, ht, hc]

theorem State.applyChanges_zones (hr : s.record? i = some r) (ch : Changes) :
    (s.applyChanges i r ch).zones = (s.amendZone i r ch.zone).zones := by
  rw [State.applyChanges_eq hr, State.amendNeighbours_frame]
  refine State.amendZone_zones_congr (t := (s.amendLocation i r ch.location).amendClass i _ ch.cls) ?_ ?_ ?_ ch.zone
  · rw [State.amendClass_frame, State.amendLocation_frame]
  · cases ch.cls <;> cases ch.location <;> rfl
  · cases ch.cls <;> cases ch.location <;> rfl

theorem State.applyChanges_classes (hr : s.record? i = some r) (ch : Changes) :
    (s.applyChanges i r ch).classes = (s.amendClass i r ch.cls).classes := by
  rw [State.applyChanges_eq hr, State.amendNeighbours_frame]
  show ((State.amendClass _ i _ ch.cls).amendZone i _ ch.zone).classes = _
  rw [State.amendZone_frame]
  refine State.amendClass_classes_congr (t := s.amendLocation i r ch.location) ?_ ?_ ch.cls
  · rw [State.amendLocation_frame]
  · cases ch.location <;> rfl

theorem State.applyChanges_lookup (hr : s.record? i = some r) (ch : Changes) :
    (s.applyChanges i r ch).lookup = (s.amendLocation i r ch.location).lookup := by
  rw [State.applyChanges_eq hr, State.amendNeighbours_frame]
  show ((State.amendClass _ i _ ch.cls).amendZone i _ ch.zone).lookup = _
  rw [State.amendZone_frame, State.amendClass_frame]

end

/-! ### The changes an AMEND asks for -/

theorem sameSet_iff {a b : List Nat} : sameSet a b = true ↔ ∀ n, n ∈ a ↔ n ∈ b := by
  simp only [sameSet, Bool.and_eq_true, List.all_eq_true, List.contains_eq_mem, decide_eq_true_iff]
  exact ⟨fun ⟨hab, hba⟩ n => ⟨hab n, hba n⟩, fun h => ⟨fun n => (h n).mp, fun n => (h n).mpr⟩⟩

section
variable {α : Type} [DecidableEq α] {selected : Bool} {present given : α}

theorem changeTo_of (h : selected = true ∧ given ≠ present) : changeTo selected present given = some given := if_pos h

theorem isSome_iff_of {β : Type} {o : Option β} {p : Prop} {v : β} (hyes : p → o = some v) (hno : ¬p → o = none) :
    o.isSome = true ↔ p := by
  by_cases h : p
  · simp [hyes h, h]
  · simp [hno h, h]

theorem changeTo_of_not (h : ¬(selected = true ∧ given ≠ present)) : changeTo selected present given = none := if_neg h

end

section
variable {s : State} {i : Nat} {r : Record} {l : List Nat}

theorem amendOutOfRange_iff {slot : Half} {selection segment cls count : Byte} {places : List Half} :
    amendOutOfRange slot selection segment cls count places
      ↔ 4095 < slot.toNat ∨ (selection.getLsbD 0 = true ∧ 15 < segment.toNat)
        ∨ (selection.getLsbD 2 = true ∧ 15 < cls.toNat)
        ∨ (selection.getLsbD 3 = true ∧ (6 < count.toNat ∨ ∃ n ∈ (places.take count.toNat).map (·.toNat), 4095 < n)) := by
  unfold amendOutOfRange
  rw [placesOutOfRange_iff]
  rfl

theorem State.any_added_neighbourFull_iff :
    (added r.neighbours l).any s.neighbourFull = true
      ↔ ∃ n ∈ l, n ∉ r.neighbours ∧ ∃ q, s.record? n = some q ∧ 6 ≤ q.neighbours.length := by
  simp only [State.any_neighbourFull_iff, mem_added, and_assoc]

theorem State.any_added_underTest_iff :
    (added r.neighbours l).any s.underTest = true
      ↔ ∃ n ∈ l, n ∉ r.neighbours ∧ ∃ q, s.record? n = some q ∧ (q.state = .ordered ∨ q.state = .testing) := by
  have hunder (n : Nat) : s.underTest n = true
      ↔ ∃ q, s.record? n = some q ∧ (q.state = .ordered ∨ q.state = .testing) := by
    unfold State.underTest
    cases s.record? n with
    | none => simp
    | some q => simpa using RecordState.inTest_iff
  simp only [List.any_eq_true, mem_added, hunder, and_assoc]

end

end Sys2Proof.Machine

open Sys2Proof.Machine

/-- Settles O13: the conditions one after another, and the changes by the rules of relinking, zones, classes and
lookup. -/
theorem amend : Obligations.Amend := by
  intro slot selection segment address zone cls count places s c i l selected hready
  have hc : course c = .action (amendEffect slot selection segment address zone cls count places) := rfl
  by_cases hrange : amendOutOfRange slot selection segment cls count places
  · exact ⟨fun _ => exec_of_effect hc hready (amendEffect_outOfRange hrange),
      fun hno => absurd (amendOutOfRange_iff.mp hrange) hno⟩
  refine ⟨fun h => absurd (amendOutOfRange_iff.mpr h) hrange, fun _ =>
    ⟨fun hfree => exec_of_effect hc hready (amendEffect_notEnrolled hrange hfree), fun _ => ?_⟩⟩
  intro r hr location rezone reclass relink busy u
  have he := amendEffect_enrolled (address := address) (zone := zone) hrange hr
  generalize hch : amendChanges r selection segment address zone cls count places = ch at he
  have hplace : selected 0 ∧ (segment.toNat, address.toNat) ≠ (r.segment, r.address) ↔ location :=
    and_congr_right fun _ => not_congr Prod.ext_iff
  have hsame : (selection.getLsbD 3 && !sameSet l r.neighbours) = true ↔ relink := by
    rw [Bool.and_eq_true, Bool.not_eq_true', ← Bool.not_eq_true, sameSet_iff]
  have hlocationYes (h : location) : ch.location = some (segment.toNat, address.toNat) := by
    subst hch; exact changeTo_of (hplace.mpr h)
  have hlocationNo (h : ¬location) : ch.location = none := by subst hch; exact changeTo_of_not (mt hplace.mp h)
  have hrezoneYes (h : rezone) : ch.zone = some zone.toNat := by subst hch; exact changeTo_of h
  have hrezoneNo (h : ¬rezone) : ch.zone = none := by subst hch; exact changeTo_of_not h
  have hreclassYes (h : reclass) : ch.cls = some cls.toNat := by subst hch; exact changeTo_of h
  have hreclassNo (h : ¬reclass) : ch.cls = none := by subst hch; exact changeTo_of_not h
  have hrelinkYes (h : relink) : ch.neighbours = some l := by subst hch; exact if_pos (hsame.mpr h)
  have hrelinkNo (h : ¬relink) : ch.neighbours = none := by subst hch; exact if_neg (mt hsame.mp h)
  have hlocation := isSome_iff_of hlocationYes hlocationNo
  have hrezone := isSome_iff_of hrezoneYes hrezoneNo
  have hreclass := isSome_iff_of hreclassYes hreclassNo
  have hrelink := isSome_iff_of hrelinkYes hrelinkNo
  refine examined_cons hc hready he Iff.rfl fun hpending he => ?_
  refine examined_cons hc hready he (by rw [hlocation, hreclass, RecordState.inTest_iff]) fun hplace he => ?_
  refine examined_cons hc hready he (by rw [hreclass, State.classDefined_eq_false]) fun hclass he => ?_
  refine examined_cons hc hready he (by rw [hrezone]) fun hzone he => ?_
  refine examined_cons hc hready he (by rw [hlocation, Option.ne_none_iff_isSome]) fun haddress he => ?_
  refine examined_cons hc hready he (and_congr_right' State.neighboursInvalid_iff.symm) fun hvalid he => ?_
  refine examined_cons hc hready he (by rw [hrelink, State.any_added_neighbourFull_iff]; rfl) fun hroom he => ?_
  refine examined_cons hc hready he (by rw [hrelink, RecordState.inTest_iff, State.any_added_underTest_iff]; rfl)
    fun hdark he => ?_
  refine examined_cons hc hready he ?_ fun hchange he => ?_
  · simp only [Bool.and_eq_true, ← Option.not_isSome, Bool.not_eq_true', ← Bool.not_eq_true, hlocation, hrezone,
      hreclass, hrelink, and_assoc]
  have hlist (h : relink) : l.Nodup ∧ i ∉ l := by
    obtain ⟨hselected, -⟩ := h
    simp only [not_and, not_or, not_not] at hvalid
    obtain ⟨-, hself, hnodup⟩ := hvalid hselected
    exact ⟨hnodup, hself⟩
  have hfit (k : List Nat) (hk : ch.neighbours = some k) : k.Nodup ∧ i ∉ k := by
    have h : relink := hrelink.mp (by rw [hk]; rfl)
    cases (hrelinkYes h).symm.trans hk
    exact hlist h
  have hzones := State.applyChanges_zones hr ch
  have hclasses := State.applyChanges_classes hr ch
  have hlookup := State.applyChanges_lookup hr ch
  refine completes_of_effect hc hready he ⟨?_, fun n hn hfree => ?_, fun n q hn hq => ⟨fun h hin hout => ?_,
    fun h hin hout => ?_, fun h => ?_⟩, fun h => ?_, fun h => ?_, fun h => ?_, fun h => ?_, fun h haddress => ?_,
    fun h => ?_, ?_⟩
  · refine ⟨_, (State.applyChanges_record?_self hr hfit).trans (congrArg some (Record.amended_eq r ch)), fun h => ?_,
      fun h => ?_, fun h => ?_, fun h => ?_, fun h => ?_, fun h => ?_, fun h => ?_, fun h => ?_, rfl⟩
    · rw [hlocationYes h]; exact ⟨rfl, rfl⟩
    · rw [hlocationNo h]; exact ⟨rfl, rfl⟩
    · rw [hrezoneYes h]; rfl
    · rw [hrezoneNo h]; rfl
    · rw [hreclassYes h]; rfl
    · rw [hreclassNo h]; rfl
    · rw [hrelinkYes h]; rfl
    · rw [hrelinkNo h]; rfl
  · rw [State.finish_record?]
    by_cases h : relink
    · rw [State.applyChanges_record?_relink hr (hrelinkYes h) (hlist h).1 (Ne.symm hn), hfree, Option.map_none,
        Option.map_none, ite_self, ite_self]
    · rw [State.applyChanges_record?_keep hr (hrelinkNo h) (Ne.symm hn), hfree]
  · rw [State.finish_record?, State.applyChanges_record?_relink hr (hrelinkYes h) (hlist h).1 (Ne.symm hn),
      if_pos ⟨hin, hout⟩, hq, Option.map_some]
  · rw [State.finish_record?, State.applyChanges_record?_relink hr (hrelinkYes h) (hlist h).1 (Ne.symm hn),
      if_neg fun h => hin h.1, if_pos ⟨hout, hin⟩, hq, Option.map_some]
  · rw [State.finish_record?]
    by_cases hre : relink
    · have hsame : n ∈ l ↔ n ∈ r.neighbours := h.resolve_left (not_not_intro hre)
      rw [State.applyChanges_record?_relink hr (hrelinkYes hre) (hlist hre).1 (Ne.symm hn),
        if_neg fun h => h.2 (hsame.mp h.1), if_neg fun h => h.2 (hsame.mpr h.1), hq]
    · rw [State.applyChanges_record?_keep hr (hrelinkNo hre) (Ne.symm hn), hq]
  · rw [hrezoneYes h] at hzones
    have hat (z : Nat) := (State.zoneAt_congr hzones z).trans (State.amendZone_zoneAt s i r h.2 z)
    refine ⟨?_, ?_, fun z hold hnew => ?_⟩
    · refine (hat r.zone).trans ((if_neg (Ne.symm h.2)).trans ((if_pos rfl).trans ?_))
      rw [Zone.leave, RecordState.uncoveredCount_eq]
    · refine (hat zone.toNat).trans ((if_pos rfl).trans ?_)
      rw [Zone.join, RecordState.uncoveredCount_eq]
    · exact (hat z).trans ((if_neg hnew).trans (if_neg hold))
  · rw [State.finish_zones, hzones, hrezoneNo h]; rfl
  · rw [hreclassYes h] at hclasses
    have hat (k : Nat) := (State.classAt_congr hclasses k).trans (State.amendClass_classAt s i r h.2 k)
    refine ⟨?_, ?_, fun k hold hnew => ?_⟩
    · exact (hat r.cls).trans ((if_neg (Ne.symm h.2)).trans (if_pos rfl))
    · exact (hat cls.toNat).trans (if_pos rfl)
    · exact (hat k).trans ((if_neg hnew).trans (if_neg hold))
  · rw [State.finish_classes, hclasses, hreclassNo h]; rfl
  · rw [hlocationYes h] at hlookup
    have hat (g a : Nat) := (State.locate_congr hlookup g a).trans
      (State.amendLocation_locate s i r segment.toNat address.toNat g a)
    refine ⟨?_, ?_, fun g a ha hnew hold => ?_⟩
    · exact (hat _ _).trans (if_pos rfl)
    · refine (hat _ _).trans ((if_neg fun hk => h.2 ?_).trans (if_pos rfl))
      exact (locationKey_inj address.isLt haddress).mp hk
    · refine (hat g a).trans ((if_neg fun hk => hnew ?_).trans (if_neg fun hk => hold ?_))
      · obtain ⟨hg, ha⟩ := (locationKey_inj address.isLt ha).mp hk
        exact ⟨hg.symm, ha.symm⟩
      · obtain ⟨hg, ha⟩ := (locationKey_inj haddress ha).mp hk
        exact ⟨hg.symm, ha.symm⟩
  · rw [State.finish_lookup, hlookup, hlocationNo h]; rfl
  · rw [State.applyChanges_frame]; rfl

end

section
/-! PROOF. The test arithmetic of chapter 03 that no earlier lemma states, the verdicts' table, and the two operations
that go over every record: hold release and the outage holds of a restore. -/

namespace Sys2Proof.Machine

/-! ### An operation on every enrolled slot -/

section
variable {op : State → Nat → State} {f : Record → Record} {P : State → Prop}

/-- What an operation on one slot after the other leaves in each: the slots listed changed once, the others as they
stand. `P` is what the operations need of a state and keep. -/
theorem State.foldl_slots_record?
    (hop : ∀ u i, P u → P (op u i) ∧ ∀ j, (op u i).record? j = if i = j then (u.record? j).map f else u.record? j)
    {l : Table Record} (hl : Table.Rising l) {s : State} (hs : P s) (j : Nat) :
    (l.foldl (fun u (e : Nat × Record) => op u e.1) s).record? j
      = if ∃ e ∈ l, e.1 = j then (s.record? j).map f else s.record? j := by
  induction l generalizing s with
  | nil => simp
  | cons e l ih =>
    obtain ⟨hrest, hl⟩ := List.pairwise_cons.mp hl
    obtain ⟨hkept, hread⟩ := hop s e.1 hs
    rw [List.foldl_cons, ih hl hkept, hread]
    by_cases hj : e.1 = j
    · have hout : ¬∃ x ∈ l, x.1 = j := fun ⟨x, hx, hxj⟩ => by have := hrest x hx; omega
      rw [if_neg hout, if_pos hj, if_pos ⟨e, List.mem_cons_self, hj⟩]
    · simp only [List.mem_cons, exists_eq_or_imp, hj, false_or, if_false]

theorem State.exists_slot_iff {s : State} (hs : Table.Rising s.luminaires) {j : Nat} :
    (∃ e ∈ s.luminaires, e.1 = j) ↔ (s.record? j).isSome = true := by
  rw [Option.isSome_iff_exists]
  constructor
  · rintro ⟨⟨k, r⟩, hmem, rfl⟩
    exact ⟨r, (Table.mem_iff_at? hs k r).mp hmem⟩
  · rintro ⟨r, hr⟩
    exact ⟨(j, r), Table.mem_of_at? hr, rfl⟩

/-- An operation on every enrolled slot changes every record, and leaves the FREE slots FREE. -/
theorem State.foldl_luminaires_record?
    (hop : ∀ u i, P u → P (op u i) ∧ ∀ j, (op u i).record? j = if i = j then (u.record? j).map f else u.record? j)
    {s : State} (hc : Table.Rising s.luminaires) (hs : P s) (j : Nat) :
    (s.luminaires.foldl (fun u (e : Nat × Record) => op u e.1) s).record? j = (s.record? j).map f := by
  rw [State.foldl_slots_record? hop hc hs]
  split
  · rfl
  next hout =>
    have hfree : s.record? j = none := Option.not_isSome_iff_eq_none.mp (mt (State.exists_slot_iff hc).mpr hout)
    rw [hfree, Option.map_none]

/-- Records changed each in its slot are counted by what they have become. -/
theorem State.countRecords_of_map {s t : State} (hs : Table.Rising s.luminaires) (ht : Table.Rising t.luminaires)
    (hread : ∀ j, t.record? j = (s.record? j).map f) (p : Record → Bool) :
    t.countRecords p = s.countRecords (p ∘ f) := by
  have hmap : Table.Rising (s.luminaires.map fun e => (e.1, f e.2)) := List.pairwise_map.mpr hs
  have hnodup {l : Table Record} (hl : Table.Rising l) : l.Nodup := hl.imp fun hlt he => by rw [he] at hlt; exact lt_irrefl _ hlt
  have hperm : t.luminaires.Perm (s.luminaires.map fun e => (e.1, f e.2)) := by
    refine (List.perm_ext_iff_of_nodup (hnodup ht) (hnodup hmap)).mpr fun ⟨k, r⟩ => ?_
    rw [Table.mem_iff_at? ht]
    show t.record? k = some r ↔ _
    simp only [hread, Option.map_eq_some_iff, List.mem_map, Prod.mk.injEq, Prod.exists, Table.mem_iff_at? hs]
    exact ⟨fun ⟨q, hq, he⟩ => ⟨k, q, hq, rfl, he⟩, fun ⟨_, q, hq, hk, he⟩ => ⟨q, hk ▸ hq, he⟩⟩
  unfold State.countRecords
  rw [hperm.countP_eq, List.countP_map]
  rfl

end

/-- Two counts add up to a third where, entry by entry, the tests do. -/
theorem countP_add_countP {α : Type} {p q r : α → Bool}
    (h : ∀ a, (if p a = true then 1 else 0) + (if q a = true then 1 else 0) = if r a = true then 1 else 0) (l : List α) :
    l.countP p + l.countP q = l.countP r := by
  induction l with
  | nil => rfl
  | cons a l ih =>
    have := h a
    simp only [List.countP_cons]
    omega

/-! ### Hold release (R69) -/

/-- A record after a release at `v`. -/
def Record.releasedAt (v : Nat) (r : Record) : Record := if r.holdReached v then r.released else r

theorem Record.holdReached_iff {r : Record} {v : Nat} : r.holdReached v = true ↔ ∃ m, r.hold = some m ∧ m ≤ v := by
  unfold Record.holdReached
  split
  next m hm => simp [hm]
  next hm => simp [hm]

theorem State.releaseHold_record? (s : State) (v i j : Nat) :
    (s.releaseHold v i).record? j = if i = j then (s.record? j).map (Record.releasedAt v) else s.record? j := by
  unfold State.releaseHold
  by_cases hij : i = j
  · subst hij
    rw [if_pos rfl]
    cases hr : s.record? i with
    | none => exact hr
    | some r =>
      simp only [Option.map_some, Record.releasedAt]
      split
      · exact (s.transition_record? i _ _ i).trans (if_pos rfl)
      · exact hr
  · rw [if_neg hij]
    split
    · split
      · exact (s.transition_record? i _ _ j).trans (if_neg hij)
      · rfl
    · rfl

theorem zoneCounts_releaseHold {s : State} (hc : s.Canonical) (h : s.ZoneCounts) (v i : Nat) :
    (s.releaseHold v i).ZoneCounts := by
  unfold State.releaseHold
  split
  next r hr =>
    split
    · exact zoneCounts_transition hc.1 hr r.released_samePlace h
    · exact h
  · exact h

theorem canonical_releaseHold {s : State} (h : s.Canonical) (v i : Nat) : (s.releaseHold v i).Canonical := by
  unfold State.releaseHold
  split
  · split
    · exact canonical_transition h _ _ _
    · exact h
  · exact h

section
variable {s : State} (hc : s.Canonical)
include hc

theorem State.releaseHolds_record? (v j : Nat) :
    (s.releaseHolds v).record? j = (s.record? j).map (Record.releasedAt v) :=
  State.foldl_luminaires_record? (op := fun u i => u.releaseHold v i) (P := fun _ => True)
    (fun u i _ => ⟨trivial, u.releaseHold_record? v i⟩) hc.1 trivial j

theorem zoneCounts_releaseHolds (h : s.ZoneCounts) (v : Nat) : (s.releaseHolds v).ZoneCounts := by
  have hfold : (s.releaseHolds v).Canonical ∧ (s.releaseHolds v).ZoneCounts :=
    foldl_keeps (P := fun u => u.Canonical ∧ u.ZoneCounts)
      (fun _ (e : Nat × Record) ⟨hc, hz⟩ => ⟨canonical_releaseHold hc v e.1, zoneCounts_releaseHold hc hz v e.1⟩) _ ⟨hc, h⟩
  exact hfold.2

end

/-- A hold release leaves a zone's entry but for its uncovered count (R9). -/
theorem State.releaseHolds_zoneAt (s : State) (v z : Nat) :
    (s.releaseHolds v).zoneAt z = { s.zoneAt z with uncovered := ((s.releaseHolds v).zoneAt z).uncovered } := by
  refine foldl_keeps (P := fun t => t.zoneAt z = { s.zoneAt z with uncovered := (t.zoneAt z).uncovered })
    (fun t (e : Nat × Record) ht => ?_) s.luminaires rfl
  unfold State.releaseHold
  split
  · split
    · rw [State.transition_zoneAt]
      split
      · rw [Zone.recount]; rw [ht]
      · exact ht
    · exact ht
  · exact ht

/-- A record counts as uncovered after a release, unless the release makes it READY. -/
theorem Record.releasedAt_counted (r : Record) (v z : Nat) :
    (if ((r.releasedAt v).zone == z && (r.releasedAt v).state.uncovered) = true then 1 else 0)
        + (if (r.zone == z && r.state == .recharging && r.hold.any fun m => decide (m ≤ v)) = true then 1 else 0)
      = if (r.zone == z && r.state.uncovered) = true then 1 else 0 := by
  have hreached : (r.hold.any fun m => decide (m ≤ v)) = r.holdReached v := by
    unfold Record.holdReached
    cases r.hold <;> rfl
  rw [hreached, Record.releasedAt]
  cases r.holdReached v with
  | false => simp
  | true =>
    simp only [if_true, Bool.and_true, Record.released]
    cases r.zone == z with
    | false => rfl
    | true => cases r.state <;> rfl

/-- The uncovered count of a zone falls by the records that a hold release makes READY there. -/
theorem State.releaseHolds_uncovered {s : State} (hc : s.Canonical) (h : s.ZoneCounts) (v z : Nat) :
    ((s.releaseHolds v).zoneAt z).uncovered
        + s.countRecords (fun r => r.zone == z && r.state == .recharging && r.hold.any fun m => decide (m ≤ v))
      = (s.zoneAt z).uncovered := by
  have hafter := (zoneCounts_releaseHolds hc h v z).2
  rw [State.countRecords_of_map hc.1 (canonical_releaseHolds hc v).1 (State.releaseHolds_record? hc v)] at hafter
  rw [hafter, (h z).2]
  exact countP_add_countP (fun e => e.2.releasedAt_counted v z) s.luminaires

/-! ### The clock advance (R28) -/

/-- A suspend whose minute an advance to `v` reaches (R162). -/
def State.ResumeDue (s : State) (v : Nat) : Prop :=
  s.programme.state = .suspended ∧ ∃ m, s.programme.resumeMinute = some m ∧ m ≤ v

theorem State.timedResume_of_due {s : State} {v : Nat} (h : s.ResumeDue v) :
    s.timedResume v = ({ s with programme := { state := .running, resumeMinute := none } }).raiseProgramme := by
  obtain ⟨hstate, m, hm, hle⟩ := h
  rw [State.timedResume, hm]
  exact if_pos ⟨hstate, hle⟩

theorem State.timedResume_of_not_due {s : State} {v : Nat} (h : ¬s.ResumeDue v) : s.timedResume v = s := by
  unfold State.timedResume
  split
  next m hm => exact if_neg fun ⟨hstate, hle⟩ => h ⟨hstate, m, hm, hle⟩
  · rfl

section
variable {s : State} {v : Nat}

theorem State.clockAdvance_of_due (h : s.ResumeDue v) :
    (s.clockAdvance v).programme = { state := .running, resumeMinute := none }
      ∧ (s.clockAdvance v).attention = (s.raise .programme 1).attention := by
  have hresumed (u : State) (hprogramme : u.programme = s.programme) (hattention : u.attention = s.attention) :
      (u.timedResume v).programme = { state := .running, resumeMinute := none }
        ∧ (u.timedResume v).attention = (s.raise .programme 1).attention := by
    have hdue : u.ResumeDue v := by rw [State.ResumeDue, hprogramme]; exact h
    rw [State.timedResume_of_due hdue]
    refine ⟨rfl, ?_⟩
    simp only [State.raiseProgramme, State.raise, State.setCause, State.causeAt, hattention, ProgrammeState.code]
  rw [State.clockAdvance_eq]
  exact hresumed _ rfl rfl

theorem State.clockAdvance_of_not_due (h : ¬s.ResumeDue v) :
    (s.clockAdvance v).programme = s.programme ∧ (s.clockAdvance v).attention = s.attention := by
  have hkept (u : State) (hprogramme : u.programme = s.programme) (hattention : u.attention = s.attention) :
      (u.timedResume v).programme = s.programme ∧ (u.timedResume v).attention = s.attention := by
    have hdue : ¬u.ResumeDue v := by rw [State.ResumeDue, hprogramme]; exact h
    rw [State.timedResume_of_not_due hdue]
    exact ⟨hprogramme, hattention⟩
  rw [State.clockAdvance_eq]
  exact hkept _ rfl rfl

end

/-! ### The outage holds of a restore (R79, R149) -/

/-- A record after the restore of segment `g`. -/
def State.restored (s : State) (g start : Nat) (r : Record) : Record :=
  if r.segment = g ∧ (r.state = .ready ∨ r.state = .recharging) then
    { r with state := .recharging, hold := some (laterHold r.hold (s.restoreHold r start)) }
  else r

/-- What the hold of a record is computed from stands. -/
def State.SameFigures (s u : State) : Prop := u.clock = s.clock ∧ u.classes = s.classes

theorem State.SameFigures.restored {s u : State} (h : s.SameFigures u) (g start : Nat) (r : Record) :
    u.restored g start r = s.restored g start r := by
  obtain ⟨hclock, hclasses⟩ := h
  simp only [State.restored, State.restoreHold, State.now, State.figures, State.classAt, hclock, hclasses]

theorem State.outageHold_frame (s : State) (g start i : Nat) :
    s.outageHold g start i
      = { s with
          luminaires := (s.outageHold g start i).luminaires, zones := (s.outageHold g start i).zones } := by
  unfold State.outageHold
  split
  · split
    · exact s.transition_frame _ _ _
    · rfl
  · rfl

theorem State.outageHold_record? (s : State) (g start i j : Nat) :
    (s.outageHold g start i).record? j = if i = j then (s.record? j).map (s.restored g start) else s.record? j := by
  unfold State.outageHold
  by_cases hij : i = j
  · subst hij
    rw [if_pos rfl]
    cases hr : s.record? i with
    | none => exact hr
    | some r =>
      simp only [Option.map_some, State.restored]
      split
      · exact (s.transition_record? i _ _ i).trans (if_pos rfl)
      · exact hr
  · rw [if_neg hij]
    split
    · split
      · exact (s.transition_record? i _ _ j).trans (if_neg hij)
      · rfl
    · rfl

theorem State.outageHolds_record? {s : State} (hc : Table.Rising s.luminaires) (g start j : Nat) :
    (s.outageHolds g start).record? j = (s.record? j).map (s.restored g start) := by
  refine State.foldl_luminaires_record? (op := fun u i => u.outageHold g start i) (P := s.SameFigures)
    (fun u i hu => ⟨?_, fun j => ?_⟩) hc ⟨rfl, rfl⟩ j
  · rw [State.outageHold_frame]
    exact hu
  · rw [State.outageHold_record?, funext (hu.restored g start)]

theorem State.outageHolds_frame (s : State) (g start : Nat) :
    s.outageHolds g start
      = { s with luminaires := (s.outageHolds g start).luminaires, zones := (s.outageHolds g start).zones } := by
  unfold State.outageHolds
  refine foldl_keeps (P := fun t => t = { s with luminaires := t.luminaires, zones := t.zones })
    (fun t (e : Nat × Record) ht => ?_) s.luminaires rfl
  rw [State.outageHold_frame, ht]

/-- One record of a restored segment leaves READY, and its zone has one more uncovered (R9). -/
theorem State.outageHold_zoneAt {s : State} {i : Nat} {r : Record} (hr : s.record? i = some r) (g start z : Nat) :
    (s.outageHold g start i).zoneAt z
      = { s.zoneAt z with
          uncovered :=
            (s.zoneAt z).uncovered + if (r.zone == z && r.segment == g && r.state == .ready) = true then 1 else 0 } := by
  unfold State.outageHold
  rw [hr]
  by_cases hin : r.segment = g ∧ (r.state = .ready ∨ r.state = .recharging)
  · simp only [if_pos hin, State.transition_zoneAt]
    obtain ⟨rfl, hstate⟩ := hin
    by_cases hz : r.zone = z
    · subst hz
      rcases hstate with h | h <;> simp [h, Zone.recount, RecordState.uncoveredCount_eq]
    · rw [if_neg hz, beq_eq_false_iff_ne.mpr hz]
      rfl
  · have hout : (r.segment == g && r.state == .ready) = false := by
      rw [Bool.and_eq_false_iff, beq_eq_false_iff_ne, beq_eq_false_iff_ne, ← not_and_or]
      exact fun h => hin ⟨h.1, .inl h.2⟩
    simp only [if_neg hin, Bool.and_assoc, hout, Bool.and_false]
    rfl

/-- The uncovered count of a zone rises by the READY records of a restored segment there. -/
theorem State.outageHolds_zoneAt {s : State} (hc : Table.Rising s.luminaires) (g start z : Nat) :
    (s.outageHolds g start).zoneAt z
      = { s.zoneAt z with
          uncovered :=
            (s.zoneAt z).uncovered + s.countRecords fun r => r.zone == z && r.segment == g && r.state == .ready } := by
  have hfold (l : Table Record) (hl : Table.Rising l) (u : State) (hu : ∀ e ∈ l, u.record? e.1 = some e.2) :
      (l.foldl (fun u e => u.outageHold g start e.1) u).zoneAt z
        = { u.zoneAt z with
            uncovered :=
              (u.zoneAt z).uncovered
                + l.countP fun e => e.2.zone == z && e.2.segment == g && e.2.state == .ready } := by
    induction l generalizing u with
    | nil => rfl
    | cons e l ih =>
      obtain ⟨hrest, hl⟩ := List.pairwise_cons.mp hl
      have he := hu e List.mem_cons_self
      rw [List.foldl_cons, ih hl _ fun x hx => ?_, State.outageHold_zoneAt he, List.countP_cons]
      · rw [Nat.add_comm (l.countP _), ← Nat.add_assoc]
      · rw [State.outageHold_record?, if_neg (hrest x hx).ne, hu x (List.mem_cons_of_mem _ hx)]
  exact hfold s.luminaires hc s fun e he => (Table.mem_iff_at? hc e.1 e.2).mp he

end Sys2Proof.Machine

open Sys2Proof.Machine

/-- Settles O10: the clamps written out, and the rounded-up quotient as the least that covers its dividend. -/
theorem rechargeHolds : Obligations.RechargeHolds := by
  refine ⟨fun f => ⟨rfl, rfl⟩, fun elapsed run => ?_, fun start now rated hrated => ?_, fun f d hle => ?_, fun m n => ?_⟩
  · simp only [dischargedAtClose, ceilDiv]
    omega
  · simp only [dischargedAtRestore]
    omega
  · simp only [rechargeHold, ceilDiv, Nat.zero_mul]
    generalize d * f.rechargeFactor = e
    omega
  · exact ⟨rfl, Nat.le_max_left m n, Nat.le_max_right m n, max_choice m n⟩

/-- Settles O18: each verdict's row by the equation of its own judgement. -/
theorem verdictTable : Obligations.VerdictTable := by
  intro s r h recharge retry passed
  obtain ⟨kind, verdict, detail, elapsed, run⟩ := h
  have hpassed (low : Bool) (hlow : (verdict == .passLow) = low) :
      s.passed r ⟨kind, verdict, detail, elapsed, run⟩ = passed low := by
    simp only [State.passed, Record.passMarks, hlow, passed]
    cases s.link.loopback with
    | true => rfl
    | false => cases kind <;> rfl
  have hcount (h : r.noAnswer < 2) : r.unanswered.noAnswer = r.noAnswer + 1 := by
    simp only [Record.unanswered]; omega
  have hthird (h : 2 ≤ r.noAnswer) : r.unanswered.noAnswer = 3 := by
    simp only [Record.unanswered]; omega
  have hunanswered (h : r.noAnswer < 2) : r.unanswered = { r with noAnswer := r.noAnswer + 1 } := by
    rw [← hcount h]; rfl
  have hsilent (h : 2 ≤ r.noAnswer) : r.unanswered.silenced = { r with state := .silent, noAnswer := 3, hold := none } := by
    rw [← hthird h]; rfl
  have hrefused (d : Option Sys2Proof.Machine.Detail) : s.judged r ⟨kind, .refused, d, elapsed, run⟩
      = if d = some .notCharged ∨ d = some .localTest then s.retrying r 60
        else if r.unanswered.noAnswer = 3 then r.unanswered.silenced else s.retrying r.unanswered 30 := rfl
  have hnoAnswer (d : Option Sys2Proof.Machine.Detail) : s.judged r ⟨kind, .noAnswer, d, elapsed, run⟩
      = if r.unanswered.noAnswer = 3 then r.unanswered.silenced
        else if d = some .afterStart then s.recharging r.unanswered ⟨kind, .noAnswer, d, elapsed, run⟩
        else s.retrying r.unanswered 30 := rfl
  refine ⟨fun hv => ?_, fun hv => ?_, fun hv => ?_, fun hv hd => ?_, fun hv => ⟨fun h => ?_, fun h => ?_⟩,
    fun ⟨hv, hd⟩ => ⟨fun h => ?_, fun h => ?_⟩, fun hv => ⟨fun hd => ?_, fun hd => ?_⟩⟩
  · cases hv; exact hpassed false rfl
  · cases hv; exact hpassed true rfl
  · rcases hv with hv | hv <;> cases hv <;> rfl
  · cases hv; exact if_pos hd
  · have hne : r.unanswered.noAnswer ≠ 3 := by rw [hcount h]; omega
    rcases hv with ⟨hv, hd⟩ | ⟨hv, hd⟩ <;> cases hv <;> cases hd
    · rw [hrefused, if_neg (by decide), if_neg hne, hunanswered h]; rfl
    · rw [hnoAnswer, if_neg hne, if_neg (by decide), hunanswered h]; rfl
  · rcases hv with ⟨hv, hd⟩ | ⟨hv, hd⟩ <;> cases hv <;> cases hd
    · rw [hrefused, if_neg (by decide), if_pos (hthird h), hsilent h]
    · rw [hnoAnswer, if_pos (hthird h), hsilent h]
  · have hne : r.unanswered.noAnswer ≠ 3 := by rw [hcount h]; omega
    cases hv; cases hd
    rw [hnoAnswer, if_neg hne, if_pos rfl, hunanswered h]; rfl
  · cases hv; cases hd
    rw [hnoAnswer, if_pos (hthird h), hsilent h]
  · cases hv; cases hd; rfl
  · cases hv; cases hd; rfl

/-- Settles O19: each owner's part by its rule, the frame by what the four together leave alone. -/
theorem clockAdvance : Obligations.ClockAdvance := by
  intro s v hc hz t
  have hframe : t = _ := s.clockAdvance_frame v
  have hread (i : Nat) : t.record? i = (s.record? i).map (Record.releasedAt v) := by
    rw [hframe]; exact State.releaseHolds_record? hc v i
  have hzone (z : Nat) : t.zoneAt z = (s.releaseHolds v).zoneAt z := by rw [hframe]; rfl
  have hplanner : t.planner = s.advancePlanner.planner := by rw [hframe]
  refine ⟨fun i hi => ?_, fun i r m hr hm hle => ?_, fun i r hr hlt => ?_, fun z => ⟨?_, ?_⟩, by rw [hframe],
    fun h => ?_, fun h => ?_, fun h => ?_, fun h => State.clockAdvance_of_not_due h, by rw [hframe]⟩
  · rw [hread, hi]; rfl
  · rw [hread, hr, Option.map_some, Record.releasedAt, if_pos (Record.holdReached_iff.mpr ⟨m, hm, hle⟩)]
    rfl
  · have hout : ¬r.holdReached v = true := fun h => by
      obtain ⟨m, hm, hle⟩ := Record.holdReached_iff.mp h
      exact absurd hle (Nat.not_le.mpr (hlt m hm))
    rw [hread, hr, Option.map_some, Record.releasedAt, if_neg hout]
  · rw [hzone]; exact State.releaseHolds_uncovered hc hz v z
  · rw [hzone]; exact s.releaseHolds_zoneAt v z
  · rw [hplanner, State.advancePlanner, if_pos h]; rfl
  · rw [hplanner, State.advancePlanner, if_neg h]
  · obtain ⟨hprogramme, hattention⟩ := State.clockAdvance_of_due h
    have hcause (c : Cause) : t.causeAt c = (s.raise .programme 1).causeAt c := by
      rw [State.causeAt, hattention]; rfl
    refine ⟨hprogramme, ?_, fun c hne => ?_, (congrArg Attention.changeMap hattention).trans rfl⟩
    · rw [hcause, State.raise_causeAt, if_pos rfl]
    · rw [hcause, State.raise_causeAt, if_neg (Ne.symm hne)]

/-- Settles O20: the clamped amount, and where the value would not move; otherwise one clock advance. -/
theorem setAndTrimClock : Obligations.SetAndTrimClock := by
  constructor
  · intro minute s c hready
    have hc : course c = .action (setClockEffect minute) := rfl
    exact examined_cons hc hready rfl Iff.rfl fun _ he => completes_of_effect hc hready he rfl
  · intro amount s c a moved v hready
    have hc : course c = .action (trimClockEffect amount) := rfl
    have ha : trimAmount amount = a := by
      simp only [trimAmount, a]
      omega
    have hv : moveMinute s.clock.value (trimAmount amount) = v := by
      rw [ha]
      simp only [moveMinute, v, moved, Sys2Proof.Config.maxMinute]
      split
      · omega
      · split <;> omega
    have hclamped : decide (trimAmount amount ≠ amount.toInt) = true ↔ ¬amount.toInt = a := by
      rw [decide_eq_true_iff, ha, ne_comm]
    refine examined_cons hc hready rfl Iff.rfl fun hset he => ?_
    simp only [hv] at he
    refine ⟨fun ⟨hsame, hexact⟩ => exec_of_effect hc hready (he.trans ?_),
      fun hno => ⟨fun hsame => exec_of_effect hc hready (he.trans ?_),
        fun hmoves => completes_of_effect hc hready (he.trans (if_neg hmoves)) ?_⟩⟩
    · rw [if_pos hsame, if_neg (mt hclamped.mp (not_not_intro hexact))]
    · rw [if_pos hsame, if_pos (hclamped.mpr fun hexact => hno ⟨hsame, hexact⟩)]
    · rw [doneOr_eq_ite hclamped, ite_not]
      rfl

/-- Settles O39: the outage holds are a map of the records, and of the segments only the transition's changes. -/
theorem restore : Obligations.Restore := by
  intro s g hc start t hold
  let u := s.mainsTransition g .present none
  have hread (i : Nat) : t.record? i = (s.record? i).map (s.restored g start) := by
    refine (State.outageHolds_record? (s := u) hc.1 g start i).trans ?_
    rw [funext (State.SameFigures.restored (s := s) (u := u) ⟨rfl, rfl⟩ g start)]
    rfl
  have hframe : t = { u with luminaires := t.luminaires, zones := t.zones } := u.outageHolds_frame g start
  refine ⟨fun i r hr hg hst => ?_, fun i r hr hout => ?_, fun i hr => ?_, fun z => ?_, ?_, fun h hne => ?_, ?_⟩
  · rw [hread, hr, Option.map_some, State.restored, if_pos ⟨hg, hst⟩]
    rfl
  · rw [hread, hr, Option.map_some, State.restored, if_neg hout]
  · rw [hread, hr, Option.map_none]
  · exact State.outageHolds_zoneAt (s := u) hc.1 g start z
  · rw [hframe]
    exact s.setSegment_segmentAt_self g _
  · rw [hframe]
    exact (s.setSegment_segmentAt g _ h).trans (if_neg (Ne.symm hne))
  · rw [hframe]
    rfl

end

section
/-! PROOF. The second tick, the calendars' commands and the planner's passes (chapters 02 and 05). -/

namespace Sys2Proof.Machine

theorem exec_event_calm {c : Instr} {effect : State → State} {s : State} (hc : course c = .event effect)
    (h : s.calm = true) : exec c s = .next (effect s) := by rw [exec_of_event hc, settle_of_calm h]

/-! ### The second tick (R27, R112, R138) -/

section
variable {s : State}

/-- The clock at a tick leaves the link and the answer time, which only the link's part of the tick reads. -/
theorem State.tickClock_link (s : State) : s.tickClock.link = s.link ∧ s.tickClock.answerTime = s.answerTime := by
  unfold State.tickClock State.setValue
  split
  · split
    · rw [State.clockAdvance_frame]; exact ⟨rfl, rfl⟩
    · exact ⟨rfl, rfl⟩
  · exact ⟨rfl, rfl⟩

theorem State.tickClock_of_unset (h : s.clock.isSet = false) : s.tickClock = s :=
  if_neg (by rw [h]; exact Bool.false_ne_true)

theorem State.tickClock_of_second (h : s.clock.isSet = true) (hseconds : s.clock.seconds < 59) :
    s.tickClock = { s with clock := { s.clock with seconds := s.clock.seconds + 1 } } :=
  (if_pos h).trans (if_neg (Nat.not_le.mpr hseconds))

theorem State.tickClock_of_minute (h : s.clock.isSet = true) (hseconds : 59 ≤ s.clock.seconds) :
    s.tickClock
      = ({ s with clock := { s.clock with value := satAdd s.clock.value 1, seconds := 0 } }).clockAdvance
          (satAdd s.clock.value 1) :=
  (if_pos h).trans (if_pos hseconds)

theorem State.tickLink_link (u : State) :
    (u.link.configured = true ∧ u.link.dispatch ≠ [] →
        u.tickLink.link
          = { u.link with
              stallCount := min 600 (u.link.stallCount + 1)
              stallDue := decide (u.answerTime ≤ min 600 (u.link.stallCount + 1) ∧ u.link.stallLatch = false) })
      ∧ (¬(u.link.configured = true ∧ u.link.dispatch ≠ []) → u.tickLink.link = u.link) := by
  have hcond : (u.link.configured && !u.link.dispatch.isEmpty) = true ↔ u.link.configured = true ∧ u.link.dispatch ≠ [] := by
    simp
  unfold State.tickLink
  constructor
  · intro h
    rw [if_pos (hcond.mpr h), Bool.decide_and]
    cases u.link.stallLatch <;> rfl
  · intro h
    rw [if_neg (mt hcond.mp h)]

theorem State.tickLink_frame (u : State) : u.tickLink = { u with link := u.tickLink.link } := by
  unfold State.tickLink
  split <;> rfl

end

/-! ### The codes of a calendar exception and of a sweep -/

theorem byte_eq_ofNat {b : Byte} {n : Nat} (h : b.toNat = n) : b = BitVec.ofNat 8 n := by
  rw [← h, BitVec.ofNat_toNat, BitVec.setWidth_eq]

theorem opensOfCode_eq (b : Byte) : opensOfCode b = if 1 < b.toNat then none else some (b == 1) := by
  revert b
  decide

theorem exceptionScopeOf_eq (b index : Byte) :
    exceptionScopeOf b index
      = if 2 < b.toNat ∨ (b = 1 ∧ 31 < index.toNat) then none
        else some (if b = 0 then .campus else if b = 1 then .profile index.toNat else .zone index.toNat) := by
  by_cases h : 2 < b.toNat
  · rw [if_pos (.inl h), exceptionScopeOf]
    split
    next he => omega
    next he => omega
    next he => omega
    · rfl
  · have hcases : b = 0 ∨ b = 1 ∨ b = 2 := by
      have : b.toNat = 0 ∨ b.toNat = 1 ∨ b.toNat = 2 := by omega
      rcases this with h | h | h <;> cases byte_eq_ofNat h
      · exact .inl rfl
      · exact .inr (.inl rfl)
      · exact .inr (.inr rfl)
    rcases hcases with rfl | rfl | rfl
    · rw [if_neg (by simp)]; rfl
    · by_cases hindex : 31 < index.toNat
      · rw [if_pos (.inr ⟨rfl, hindex⟩)]
        exact if_neg (Nat.not_lt.mpr hindex)
      · rw [if_neg (by simp [hindex])]
        exact if_pos (Nat.lt_of_not_le hindex)
    · rw [if_neg (by simp)]; rfl

/-- A code or index of an exception command is out of its range (R37). -/
def exceptionOutOfRange (scope index effect : Byte) : Prop :=
  2 < scope.toNat ∨ (scope = 1 ∧ 31 < index.toNat) ∨ 1 < effect.toNat

theorem exceptionOf_of_outOfRange {start stop : Word} {scope index effect : Byte}
    (h : exceptionOutOfRange scope index effect) : exceptionOf start stop scope index effect = none := by
  unfold exceptionOf
  rw [exceptionScopeOf_eq, opensOfCode_eq]
  by_cases hscope : 2 < scope.toNat ∨ (scope = 1 ∧ 31 < index.toNat)
  · rw [if_pos hscope]
  · have heffect : 1 < effect.toNat := by
      rcases h with h | h | h
      · exact absurd (.inl h) hscope
      · exact absurd (.inr h) hscope
      · exact h
    rw [if_neg hscope, if_pos heffect]

theorem exceptionOf_of_inRange {start stop : Word} {scope index effect : Byte}
    (h : ¬exceptionOutOfRange scope index effect) :
    exceptionOf start stop scope index effect
      = some
        { start := start.toNat
          stop := stop.toNat
          scope := if scope = 0 then .campus else if scope = 1 then .profile index.toNat else .zone index.toNat
          opens := effect == 1 } := by
  unfold exceptionOf
  rw [exceptionScopeOf_eq, opensOfCode_eq]
  simp only [exceptionOutOfRange, not_or] at h
  obtain ⟨hscope, hindex, heffect⟩ := h
  rw [if_neg (not_or.mpr ⟨hscope, hindex⟩), if_neg heffect]

/-- An exception goes after every entry starting no later, and before every later one (R37). -/
theorem placeException_split {e : CalendarException} {l : List CalendarException}
    (h : l.Pairwise fun a b => a.start ≤ b.start) :
    ∃ before after, l = before ++ after ∧ placeException e l = before ++ e :: after
      ∧ (∀ x ∈ before, x.start ≤ e.start) ∧ ∀ x ∈ after, e.start < x.start := by
  induction l with
  | nil => exact ⟨[], [], rfl, rfl, List.forall_mem_nil _, List.forall_mem_nil _⟩
  | cons x l ih =>
    obtain ⟨hx, hl⟩ := List.pairwise_cons.mp h
    rw [placeException]
    split
    next hle =>
      obtain ⟨before, after, hsplit, hplace, hbefore, hafter⟩ := ih hl
      refine ⟨x :: before, after, by rw [hsplit]; rfl, by rw [hplace]; rfl, fun y hy => ?_, hafter⟩
      rcases List.mem_cons.mp hy with rfl | hy
      · exact hle
      · exact hbefore y hy
    next hgt =>
      refine ⟨[], x :: l, rfl, rfl, List.forall_mem_nil _, fun y hy => ?_⟩
      rcases List.mem_cons.mp hy with rfl | hy
      · omega
      · have := hx y hy
        omega

theorem sweepModeOfCode_eq (b : Byte) :
    sweepModeOfCode b
      = if 2 < b.toNat then none else some (if b = 0 then .off else if b = 1 then .single else .repeating) := by
  revert b
  decide

theorem sweepScopeOfCode_eq (b zone : Byte) :
    sweepScopeOfCode b zone = if 1 < b.toNat then none else some (if b = 0 then .all else .zone zone.toNat) := by
  by_cases h : 1 < b.toNat
  · rw [if_pos h, sweepScopeOfCode]
    split
    next he => omega
    next he => omega
    · rfl
  · have hcases : b.toNat = 0 ∨ b.toNat = 1 := by omega
    rcases hcases with h | h <;> cases byte_eq_ofNat h <;> rfl

/-! ### The passes of the planner (R89, R91) -/

theorem SweepScope.includes_iff {sc : SweepScope} {r : Record} : sc.includes r = true ↔ sc = .all ∨ sc = .zone r.zone := by
  cases sc with
  | all => exact iff_of_true rfl (.inl rfl)
  | zone z =>
    refine beq_iff_eq.trans ⟨fun h => .inr (h ▸ rfl), fun h => ?_⟩
    rcases h with h | h <;> cases h
    rfl

section
variable {s : State}

theorem State.nextVisit?_eq_none (hc : Table.Rising s.luminaires) :
    s.nextVisit? = none
      ↔ ∀ i r, s.record? i = some r → s.planner.cursor ≤ i →
          ¬(s.planner.passScope = .all ∨ s.planner.passScope = .zone r.zone) := by
  simp only [State.nextVisit?, List.find?_eq_none, Bool.and_eq_true, decide_eq_true_iff, not_and, Prod.forall,
    Table.mem_iff_at? hc, SweepScope.includes_iff]
  rfl

theorem State.nextVisit?_of_lowest (hc : Table.Rising s.luminaires) {i : Nat} {r : Record} (hr : s.record? i = some r)
    (hi : s.planner.cursor ≤ i) (hin : s.planner.passScope = .all ∨ s.planner.passScope = .zone r.zone)
    (hlow : ∀ j q, s.record? j = some q → s.planner.cursor ≤ j → j < i →
      ¬(s.planner.passScope = .all ∨ s.planner.passScope = .zone q.zone)) : s.nextVisit? = some (i, r) := by
  cases hnext : s.nextVisit? with
  | none => exact absurd hin ((State.nextVisit?_eq_none hc).mp hnext i r hr hi)
  | some e =>
    obtain ⟨j, q⟩ := e
    obtain ⟨hq, hj, hscope⟩ := State.nextVisit?_some hnext hc
    obtain ⟨-, before, after, hl, hbefore⟩ := List.find?_eq_some_iff_append.mp hnext
    have hmem : (i, r) ∈ before ++ (j, q) :: after := hl ▸ Table.mem_of_at? hr
    have hji : ¬j < i := fun hlt => hlow j q hq hj hlt (SweepScope.includes_iff.mp hscope)
    rcases List.mem_append.mp hmem with hmem | hmem
    · have hout := hbefore _ hmem
      simp [hi, SweepScope.includes_iff.mpr hin] at hout
    · rcases List.mem_cons.mp hmem with he | hmem
      · rw [he]
      · have hrise : Table.Rising (before ++ (j, q) :: after) := hl ▸ hc
        exact absurd ((List.pairwise_cons.mp (List.pairwise_append.mp hrise).2.1).1 _ hmem) hji

theorem State.overdueRecord_iff {r : Record} :
    s.overdueRecord r = true
      ↔ deadlineMinute (s.figures r.cls) r .function ≤ s.now ∨ deadlineMinute (s.figures r.cls) r .duration ≤ s.now := by
  simp only [State.overdueRecord, Bool.or_eq_true, isOverdue_iff]

end

end Sys2Proof.Machine

open Sys2Proof.Machine

/-- Settles O21: the tick's three parts, the clock, the channels and the link, each by its own equation. -/
theorem secondTick : Obligations.SecondTick := by
  intro s hc hcalm
  have hexec : exec .secondTick s = .next s.tick := exec_event_calm (c := .secondTick) rfl hcalm
  obtain ⟨hlink, hanswer⟩ := s.tickClock_link
  have hchannels : s.tickClock.channels = s.channels := s.tickClock_channels
  have hrising : Table.Rising s.channels := hc.2.2.2.2.2.1.1
  have hread (k : Nat) : s.tick.channelAt k = (s.channelAt k).ticked := by
    have hat : s.tick.channelAt k = s.tickClock.tickChannels.channelAt k := by
      rw [State.tick, State.tickLink_frame]; rfl
    rw [hat, State.tickChannels_channelAt (by rw [hchannels]; exact hrising), State.channelAt_congr hchannels]
  have htick := s.tickClock.tickChannels.tickLink_link
  have hlinkThen : s.tickClock.tickChannels.link = s.link := hlink
  have hanswerThen : s.tickClock.tickChannels.answerTime = s.answerTime := hanswer
  rw [hlinkThen, hanswerThen] at htick
  refine ⟨s.tick, hexec, fun k => ⟨fun h => ?_, fun h => ?_⟩, fun h => ?_, fun h => ?_, s.tickClock, ?_, fun h => ?_,
    fun h hs => ?_, fun h hs hv => ?_, fun h hs hv => ?_⟩
  · rw [hread, Channel.ticked_free h]
  · rw [hread, Channel.ticked_bound h]
  · exact htick.1 h
  · exact htick.2 h
  · rw [State.tick, State.tickLink_frame]; rfl
  · exact State.tickClock_of_unset h
  · exact State.tickClock_of_second h hs
  · rw [State.tickClock_of_minute h hs, satAdd_of_le (by omega)]
  · rw [State.tickClock_of_minute h hs, hv, satAdd_of_gt (by omega), ← hv]

/-- Settles O22: the conditions one after another; an added entry splits the list at its start, a dropped one leaves
by its erasure. -/
theorem profileAndExceptionCommands : Obligations.ProfileAndExceptionCommands := by
  constructor
  · intro profile slots s c hready
    have hc : course c = .action (writeProfileEffect profile slots) := rfl
    refine examined_cons hc hready rfl Iff.rfl fun hprofile he => ?_
    refine completes_of_effect hc hready he ⟨?_, fun p hp => ?_, rfl⟩
    · rw [State.finish_profileAt, State.setProfile_profileAt_self]
    · rw [State.finish_profileAt, State.setProfile_profileAt, if_neg (Ne.symm hp)]
  intro start stop scope index effect s add drop bad e
  have hadd : course add = .action (addExceptionEffect start stop scope index effect) := rfl
  have hdrop : course drop = .action (dropExceptionEffect start stop scope index effect) := rfl
  by_cases hbad : bad
  · have hnone := exceptionOf_of_outOfRange (start := start) (stop := stop) hbad
    refine ⟨fun hready => ⟨fun _ => exec_of_effect hadd hready ?_, fun hno => absurd hbad hno⟩,
      fun hready => ⟨fun _ => exec_of_effect hdrop hready ?_, fun hno => absurd hbad hno⟩⟩
    · rw [addExceptionEffect, hnone]
    · rw [dropExceptionEffect, hnone]
  have hsome := exceptionOf_of_inRange (start := start) (stop := stop) hbad
  constructor
  · intro hready
    refine ⟨fun h => absurd h hbad, fun _ => ?_⟩
    refine examined_cons hadd hready (by rw [addExceptionEffect, hsome]) Iff.rfl fun _ he => ?_
    refine examined_cons hadd hready he Iff.rfl fun _ he => ?_
    refine examined_cons hadd hready he Iff.rfl fun _ he => ?_
    refine examined_cons hadd hready he Iff.rfl fun _ he hsorted => ?_
    exact completes_of_effect hadd hready he ⟨placeException_split hsorted, rfl⟩
  · intro hready
    refine ⟨fun h => absurd h hbad, fun _ => ?_⟩
    have heffect : dropExceptionEffect start stop scope index effect s
        = if e ∉ s.exceptions then (s, .notFound) else ({ s with exceptions := s.exceptions.erase e }, .done) := by
      rw [dropExceptionEffect, hsome]
      exact (ite_not _ _ _).symm
    refine examined_cons hdrop hready heffect Iff.rfl fun hin he => ?_
    obtain ⟨before, after, hout, hl, herase⟩ := List.exists_erase_eq (not_not.mp hin)
    exact completes_of_effect hdrop hready he ⟨⟨before, after, hl, hout, herase⟩, rfl⟩

/-- Settles O23: the conditions one after another, and the planner's fields as the command writes them. -/
theorem sweepCommands : Obligations.SweepCommands := by
  constructor
  · intro mode scope zone s c sc m hready
    have hc : course c = .action (setSweepEffect mode scope zone) := rfl
    have heffect : setSweepEffect mode scope zone s
        = if 2 < mode.toNat ∨ 1 < scope.toNat then (s, .outOfRange)
          else if m ≠ .off ∧ s.clock.isSet = false then (s, .clockUnset)
          else if m = s.planner.mode ∧ sc = s.planner.scope ∧ s.planner.phase = .idle then (s, .noEffect)
          else
            ({ s with
                planner := { (if m = .off then s.planner.abandoned else s.planner) with mode := m, scope := sc } },
              .done) := by
      unfold setSweepEffect
      rw [sweepModeOfCode_eq, sweepScopeOfCode_eq]
      by_cases hmode : 2 < mode.toNat
      · rw [if_pos hmode, if_pos (Or.inl hmode)]
      · by_cases hscope : 1 < scope.toNat
        · rw [if_neg hmode, if_pos hscope, if_pos (Or.inr hscope)]
        · rw [if_neg hmode, if_neg hscope, if_neg (not_or.mpr ⟨hmode, hscope⟩)]
    have hoff : m ≠ .off ↔ mode ≠ 0 := by
      by_cases h0 : mode = 0
      · simp [m, h0]
      · simp only [m, if_neg h0]
        split <;> exact iff_of_true (by decide) h0
    refine examined_cons hc hready heffect Iff.rfl fun _ he => ?_
    refine examined_cons hc hready he (and_congr_left' hoff.symm) fun _ he => ?_
    refine examined_cons hc hready he Iff.rfl fun _ he => ?_
    refine completes_of_effect hc hready he ⟨fun h => ?_, fun h hphase => ?_, fun h hphase => ?_, ?_⟩
    · show ({ (if m = .off then s.planner.abandoned else s.planner) with mode := m, scope := sc } : Planner) = _
      by_cases hm : m = .off
      · have hidle := h.resolve_left (not_not_intro hm)
        rw [if_pos hm, Planner.abandoned, hidle]
      · rw [if_neg hm]
    · show ({ (if m = .off then s.planner.abandoned else s.planner) with mode := m, scope := sc } : Planner) = _
      rw [if_pos h, Planner.abandoned, hphase]
    · show ({ (if m = .off then s.planner.abandoned else s.planner) with mode := m, scope := sc } : Planner) = _
      rw [if_pos h, Planner.abandoned, hphase]
    · rfl
  · intro s hready
    have hc : course .startSweep = .action startSweepEffect := rfl
    refine examined_cons hc hready rfl Iff.rfl fun _ he => ?_
    refine examined_cons hc hready he (by cases s.planner.mode <;> decide) fun _ he => ?_
    refine examined_cons hc hready he (by cases s.planner.phase <;> decide) fun _ he => ?_
    exact completes_of_effect hc hready he rfl

/-- Settles O24: the next visit is the lowest record of the scope at or above the cursor, or there is none. -/
theorem visit : Obligations.Visit := by
  intro s hc hcalm inScope
  have hexec : exec .visit s = .next s.visitNext := exec_event_calm (c := .visit) rfl hcalm
  refine ⟨fun hphase => hexec.trans ?_, fun hnone => hexec.trans ?_, fun i r hphase hr hi hin hlow => ?_⟩
  · rw [State.visitNext, if_neg hphase]
  · rw [State.visitNext, (State.nextVisit?_eq_none hc.1).mpr hnone, ite_self]
  · intro f late
    have hvisit : s.visitNext = s.visitRecord i r := by
      rw [State.visitNext, if_pos hphase, State.nextVisit?_of_lowest hc.1 hr hi hin hlow]
    refine ⟨_, hexec.trans (congrArg _ hvisit), rfl, fun h => ?_, fun h => ?_, fun h => ?_, fun c h => ?_, rfl⟩
    · simp only [State.visitRecord]
      rw [if_pos (State.overdueRecord_iff.mpr h)]
    · simp only [State.visitRecord]
      rw [if_neg (mt State.overdueRecord_iff.mp h)]
      rfl
    · simp only [State.visitRecord, h]
    · simp only [State.visitRecord, h]

/-- Settles O27: a pass is complete where no visit is left; its completion by the published planner and the two
causes it raises. -/
theorem passCompletion : Obligations.PassCompletion := by
  intro s hc hcalm inScope
  have hexec : exec .passCompletion s = .next s.finishPass := exec_event_calm (c := .passCompletion) rfl hcalm
  refine ⟨fun hphase => hexec.trans ?_, fun i r hr hi hin => hexec.trans ?_, fun hphase hnone => ?_⟩
  · rw [State.finishPass, if_neg fun h => hphase h.1]
  · rw [State.finishPass, if_neg fun h => (State.nextVisit?_eq_none hc.1).mp h.2 i r hr hi hin]
  have hcomplete : s.finishPass = s.completePass :=
    if_pos ⟨hphase, (State.nextVisit?_eq_none hc.1).mpr hnone⟩
  have hplanner : s.completePass.planner = s.completedPlanner := by
    rw [State.completePass_eq]
    split <;> rfl
  have hcause (c : Cause) : s.completePass.causeAt c
      = if c = .overdue then
          { s.causeAt .overdue with pending := decide (0 < s.planner.tally), carried := s.planner.tally }
        else if c = .programme ∧ s.planner.mode = .single then
          { s.causeAt .programme with pending := true, carried := s.programme.state.code }
        else s.causeAt c := by
    have hover (d : Cause) : (({ s with planner := s.completedPlanner } : State).setOverdue s.planner.tally).causeAt d
        = if d = .overdue then
            { s.causeAt .overdue with pending := decide (0 < s.planner.tally), carried := s.planner.tally }
          else s.causeAt d := (State.setCause_causeAt ..).trans (if_congr eq_comm rfl rfl)
    rw [State.completePass_eq]
    by_cases hsingle : s.planner.mode = .single
    · rw [if_pos hsingle, State.raiseProgramme]
      by_cases hp : c = .programme
      · subst hp
        have hne : ¬Cause.programme = Cause.overdue := by decide
        rw [State.raise_causeAt, if_pos rfl, hover, if_neg hne, if_neg hne, if_pos ⟨rfl, hsingle⟩]
        rfl
      · rw [State.raise_causeAt, if_neg (Ne.symm hp), hover,
          if_neg (c := c = .programme ∧ s.planner.mode = .single) fun h => hp h.1]
    · rw [if_neg hsingle, hover, if_neg (c := c = .programme ∧ s.planner.mode = .single) fun h => hsingle h.2]
  have hframe : s.completePass
      = { s with planner := s.completedPlanner, attention := s.completePass.attention } := by
    rw [State.completePass_eq]
    split <;> rfl
  refine ⟨_, hexec.trans (congrArg _ hcomplete), ?_, ?_, fun h => ?_, fun h => ?_, fun h => ⟨?_, ?_⟩, fun h => ⟨?_, ?_⟩,
    ?_, ?_, ?_, fun c ho hp => ?_, ?_, ?_⟩
  · rw [hplanner]; rfl
  · rw [hplanner]; rfl
  · rw [hplanner]; exact if_pos h
  · rw [hplanner]; exact if_neg h
  · rw [hplanner]; exact if_pos h
  · rw [hcause, if_neg (by decide), if_pos ⟨rfl, h⟩]
    rfl
  · rw [hplanner]; exact if_neg h
  · rw [hcause, if_neg (by decide), if_neg fun hp => h hp.2]
  · rw [hcause, if_pos rfl]
  · rw [hcause, if_pos rfl]; exact decide_eq_true_iff
  · rw [hcause, if_pos rfl]
  · rw [hcause, if_neg ho, if_neg fun h => hp h.1]
  · rw [State.completePass_eq]
    split <;> rfl
  · rw [hframe]; rfl

end

section
/-! PROOF. Trials, orders, expiries and reports (chapters 05 to 07): the checks of a trial in their order, what a dispatch
and every queued order write, and the table of report kinds. -/

namespace Sys2Proof.Machine

/-! ### The checks of a trial (R101 to R103) -/

/-- One check of a chain of checks: its outcome where it fails, the next checks where it does not. -/
theorem examined_check {ρ : Type} {p q : Prop} [Decidable p] {x o b : ρ} {l : List (Prop × ρ)} {answer : ρ → Prop}
    {final : Prop} (he : x = if p then o else b) (hq : q ↔ p) (ho : x = o → answer o)
    (hrest : ¬q → x = b → Examined l answer final) : Examined ((q, o) :: l) answer final :=
  ⟨fun hyes => ho (he.trans (if_pos (hq.mp hyes))), fun hno => hrest hno (he.trans (if_neg (mt hq.mpr hno)))⟩

section
variable {s : State} {r : Record}

theorem State.freeChannel?_isNone : s.freeChannel?.isNone = true ↔ ∀ j, j < 32 → (s.channelAt j).state ≠ .free := by
  simp only [State.freeChannel?, Option.isNone_iff_eq_none, List.find?_eq_none, mem_allChannels, Bool.not_eq_true',
    Bool.not_eq_false, State.bound_iff]

theorem State.freeChannel?_of_lowest {k : Nat} (hk : k < 32) (hfree : (s.channelAt k).state = .free)
    (hlow : ∀ j, j < k → (s.channelAt j).state ≠ .free) : s.freeChannel? = some k := by
  have hbound : s.bound k = false := by rw [State.bound, hfree]; rfl
  refine List.find?_range_eq_some.mpr ⟨by rw [hbound]; rfl, List.mem_range.mpr hk, fun j hj => ?_⟩
  rw [(s.bound_iff j).mpr (hlow j hj)]
  rfl

theorem State.revalidates_iff {k : Kind} :
    s.revalidates r k = true
      ↔ r.state = .ready ∧ r.hold = none ∧ (s.zoneAt r.zone).held = false
        ∧ (eligibleFrom (s.figures r.cls) r k ≤ s.now ∨ r.requested = some k)
        ∧ (s.fits r.zone s.now (spanOf (s.figures r.cls) k) = true ∨ (k = .function ∧ r.requested = some .function)) := by
  simp only [State.revalidates, Bool.and_eq_true, Bool.or_eq_true, State.free_iff, State.kindOpen_iff, beq_iff_eq,
    State.kindFits]
  tauto

theorem State.segment_down_iff {g : Nat} :
    (!((s.segmentAt g).enabled && (s.segmentAt g).mains == .present)) = true
      ↔ (s.segmentAt g).enabled = false ∨ (s.segmentAt g).mains ≠ .present := by
  rw [Bool.not_eq_true', Bool.and_eq_false_iff, beq_eq_false_iff_ne]

theorem not_decide_lt_iff {a b : Nat} : (!decide (a < b)) = true ↔ b ≤ a := by
  rw [Bool.not_eq_true', decide_eq_false_iff_not, Nat.not_lt]

theorem State.coverPasses_iff {z : Nat} :
    (!s.coverPasses z) = true
      ↔ coverLimit (s.zoneAt z).population (s.zoneAt z).percent ≤ (s.zoneAt z).uncovered := not_decide_lt_iff

theorem State.neighbourUnready_iff :
    (!r.neighbours.all s.isReady) = true ↔ ∃ n ∈ r.neighbours, ∀ q, s.record? n = some q → q.state ≠ .ready := by
  rw [Bool.not_eq_true', List.all_eq_false]
  refine exists_congr fun n => and_congr_right fun _ => ?_
  rw [State.isReady_iff]
  exact ⟨fun h q hq hready => h ⟨q, hq, hready⟩, fun h ⟨q, hq, hready⟩ => h q hq hready⟩

/-- A trial that runs the published entry at the trial position, and the end of the phase (R100, R106). -/
theorem State.runTrial_of_entry {e : PublishedEntry} (hphase : s.planner.phase = .dispatching)
    (hrun : s.programme.state = .running) (he : s.planner.published[s.planner.trialPosition]? = some e) :
    s.runTrial = s.tryEntry e := by
  rw [State.runTrial, if_pos hphase, if_pos hrun, he]

/-- The planner after a trial with outcome `o` (R101, R106). -/
theorem State.recordTrial_dispatching (s : State) (hphase : s.planner.phase = .dispatching) (pos : Nat)
    (e : PublishedEntry) (o : TrialOutcome) :
    s.recordTrial pos e o
      = { s with
          planner :=
            { s.planner with
              published := s.planner.published.set pos { e with outcome := o }
              trialPosition := pos + 1
              phase := if s.planner.published.length ≤ pos + 1 then .idle else .dispatching } } := by
  rw [State.recordTrial, hphase]

end

/-! ### Orders (R111, R131, R135) -/

section
variable {s : State} {k : Nat} {c : Channel} {r : Record}

/-- A channel rewritten and an order queued for it: the channel, the queue, and nothing else. -/
theorem State.ordered_channelAt (kind : OrderKind) (j : Nat) :
    ((s.setChannel k c).queueOrder kind k).channelAt j = if k = j then c else s.channelAt j := by
  rw [State.queueOrder_channelAt, State.setChannel_channelAt]

theorem State.ordered_link (kind : OrderKind) (hr : s.record? c.index = some r) :
    ((s.setChannel k c).queueOrder kind k).link
      = { s.link with
          dispatch :=
            s.link.dispatch
              ++ [{ kind := kind, channel := k, generation := c.generation, segment := r.segment, address := r.address }]
          stallCount := if s.link.dispatch = [] then 0 else s.link.stallCount } := by
  have hthere : (s.setChannel k c).record? ((s.setChannel k c).channelAt k).index = some r := by
    rw [State.setChannel_channelAt_self]; exact hr
  rw [State.queueOrder_frame, State.queueOrder_dispatch kind hthere, State.queueOrder_stallCount kind hthere,
    State.setChannel_channelAt_self]
  rfl

theorem State.ordered_frame (kind : OrderKind) :
    (s.setChannel k c).queueOrder kind k
      = { s with
          channels := ((s.setChannel k c).queueOrder kind k).channels
          link := ((s.setChannel k c).queueOrder kind k).link } := by
  rw [State.queueOrder_frame]
  rfl

/-- The channel a record's slot carries: the lowest bound to it. -/
theorem State.channelOf?_eq_some {i : Nat} :
    s.channelOf? i = some k
      ↔ k < 32 ∧ (s.channelAt k).state ≠ .free ∧ (s.channelAt k).index = i
        ∧ ∀ j, j < k → ¬((s.channelAt j).state ≠ .free ∧ (s.channelAt j).index = i) := by
  have hcarries (j : Nat) : (s.bound j && (s.channelAt j).index == i) = true
      ↔ (s.channelAt j).state ≠ .free ∧ (s.channelAt j).index = i := by
    rw [Bool.and_eq_true, State.bound_iff, beq_iff_eq]
  refine List.find?_range_eq_some.trans ?_
  simp only [hcarries, List.mem_range, Bool.not_eq_true', ← Bool.not_eq_true, Config.channelCount]
  tauto

end

/-! ### Reports (R115 to R119) -/

theorem reportKindOf_isSome {n : Nat} : (reportKindOf n).isSome = true ↔ n ≤ 5 := by
  by_cases h : n ≤ 5
  · interval_cases n <;> simp [reportKindOf]
  · obtain ⟨m, rfl⟩ : ∃ m, n = m + 6 := ⟨n - 6, by omega⟩
    exact iff_of_false Bool.false_ne_true h

theorem refusedDetail_of_other {n : Nat} (h1 : n ≠ 1) (h3 : n ≠ 3) : refusedDetail n = .notPresent := by
  unfold refusedDetail
  split
  · exact absurd rfl h1
  · exact absurd rfl h3
  · rfl

theorem State.matched_iff {s : State} {p : Report} :
    s.matched p = true
      ↔ p.kind ≤ 5 ∧ (s.channelAt p.channel).state ≠ .free ∧ p.generation = (s.channelAt p.channel).generation
        ∧ ∃ r, s.record? (s.channelAt p.channel).index = some r ∧ p.address = r.address := by
  unfold State.matched
  cases s.record? (s.channelAt p.channel).index with
  | none => simp
  | some r =>
    simp only [Bool.and_eq_true, reportKindOf_isSome, State.bound_iff, beq_iff_eq, Option.some.injEq, exists_eq_left',
      and_assoc, eq_comm (a := r.address)]

section
variable {s : State} {k detail : Nat}

/-- The table of R115, state by state. -/
theorem State.judgeReport_ordered (h : (s.channelAt k).state = .ordered) (kind : ReportKind) :
    s.judgeReport k kind detail = match kind with
      | .started => s.startRun k
      | .refused => s.close k .refused (some (refusedDetail detail))
      | _ => s.stale := by
  unfold State.judgeReport
  rw [h]
  cases kind <;> rfl

theorem State.judgeReport_running (h : (s.channelAt k).state = .running) (kind : ReportKind) :
    s.judgeReport k kind detail = match kind with
      | .cutoff => s.closeCutoff k
      | .lampFault => s.close k .failLamp none
      | _ => s.stale := by
  unfold State.judgeReport
  rw [h]
  cases kind <;> rfl

theorem State.judgeReport_stopping (h : (s.channelAt k).state = .stopping) (kind : ReportKind) :
    s.judgeReport k kind detail = match kind with
      | .stopped => s.close k (stoppedVerdict (s.channelAt k).kind detail) none
      | .cutoff => s.closeCutoff k
      | .lampFault => s.close k .failLamp none
      | _ => s.stale := by
  unfold State.judgeReport
  rw [h]
  cases kind <;> rfl

theorem State.judgeReport_aborting (h : (s.channelAt k).state = .aborting) (kind : ReportKind) :
    s.judgeReport k kind detail = s.closeVoid k := by
  unfold State.judgeReport
  rw [h]

theorem State.judgeReport_free (h : (s.channelAt k).state = .free) (kind : ReportKind) :
    s.judgeReport k kind detail = s.stale := by
  unfold State.judgeReport
  rw [h]

/-- The channel and the record of an accepted STARTED (R116). -/
theorem State.startRun_eq {r : Record} (hr : s.record? (s.channelAt k).index = some r) :
    s.startRun k
      = (s.setChannel k
            { s.channelAt k with
              state := .running, started := true, role := .run, target := (s.channelAt k).runSeconds }).transition
          (s.channelAt k).index r { r with state := .testing } := by
  rw [State.startRun, State.startMark]
  have hthere (c : Channel) : (s.setChannel k c).record? (s.channelAt k).index = some r := hr
  rw [hthere]

end

end Sys2Proof.Machine

open Sys2Proof.Machine

/-- Settles O28: the checks one after another, each by the branch of the trial it ends. -/
theorem trialRefusals : Obligations.TrialRefusals := by
  intro s hcalm p
  have hexec : exec .trial s = .next s.runTrial := exec_event_calm (c := .trial) rfl hcalm
  refine ⟨fun hphase => hexec.trans ?_, fun hphase hend => hexec.trans ?_, fun e hphase hrun he => ?_⟩
  · rw [State.runTrial, if_neg hphase]
  · rw [State.runTrial, if_pos hphase]
    split
    next hrun =>
      have hlast : s.planner.published[s.planner.trialPosition]? = none :=
        List.getElem?_eq_none (hend.resolve_left (not_not_intro hrun))
      rw [hlast]
      rfl
    · rfl
  intro k valid
  have hanswer (o : TrialOutcome) (hne : o ≠ .dispatched) (ho : s.trialOutcome e.entry = o) :
      exec .trial s
        = .next
          { s with
            planner :=
              { p with
                published := p.published.set p.trialPosition { e with outcome := o }
                trialPosition := p.trialPosition + 1
                phase := if p.published.length ≤ p.trialPosition + 1 then .idle else .dispatching } } := by
    rw [hexec, State.runTrial_of_entry hphase hrun he, State.tryEntry, ho, if_neg hne,
      State.recordTrial_dispatching s hphase]
  have hvalid (r : Record) : valid r ↔ s.record? e.entry.index = some r ∧ s.revalidates r k = true := by
    rw [State.revalidates_iff]
  refine examined_check (x := s.trialOutcome e.entry) rfl not_decide_lt_iff.symm (hanswer _ (by decide)) fun _ hx => ?_
  refine examined_check hx State.freeChannel?_isNone.symm (hanswer _ (by decide)) fun _ hx => ?_
  cases hr : s.record? e.entry.index with
  | none =>
    rw [hr] at hx
    refine ⟨fun _ => hanswer _ (by decide) hx, fun h => absurd (fun ⟨r, hr'⟩ => ?_) h⟩
    cases hr.symm.trans ((hvalid r).mp hr').1
  | some r =>
    rw [hr] at hx
    replace hx : s.trialOutcome e.entry = if ¬s.revalidates r k = true then .gone else s.recordChecks r :=
      hx.trans (ite_not _ _ _).symm
    have honly (q : Record) : valid q ↔ q = r ∧ s.revalidates r k = true := by
      rw [hvalid, hr, Option.some.injEq]
      exact ⟨fun ⟨he, hq⟩ => ⟨he.symm, he ▸ hq⟩, fun ⟨he, hq⟩ => ⟨he.symm, he ▸ hq⟩⟩
    have hexists : (¬∃ q, valid q) ↔ ¬s.revalidates r k = true := by simp only [honly, exists_eq_left]
    refine examined_check hx hexists (hanswer _ (by decide)) fun hyes hx => ?_
    have hrevalidates : s.revalidates r k = true := not_not.mp (mt hexists.mpr hyes)
    have hon {c : Record → Prop} : (∃ q, valid q ∧ c q) ↔ c r := by
      simp only [honly, hrevalidates, and_true, exists_eq_left]
    refine examined_check hx (hon.trans State.segment_down_iff.symm) (hanswer _ (by decide)) fun _ hx => ?_
    refine examined_check hx (hon.trans not_decide_lt_iff.symm) (hanswer _ (by decide)) fun _ hx => ?_
    refine examined_check hx (hon.trans State.coverPasses_iff.symm) (hanswer _ (by decide)) fun _ hx => ?_
    exact examined_check hx (hon.trans State.neighbourUnready_iff.symm) (hanswer _ (by decide)) fun _ hx => hx

/-- Settles O29: the lowest FREE channel is found, and the binding, the dispatch mark and the order by their rules. -/
theorem trialDispatches : Obligations.TrialDispatches := by
  intro s e k r p c i hcalm hphase hrun he hout hk hfree hlow hr
  have hexec : exec .trial s = .next s.runTrial := exec_event_calm (c := .trial) rfl hcalm
  have hchannel := State.freeChannel?_of_lowest hk hfree hlow
  obtain ⟨k', r', hk', hr', hready, -⟩ := State.trialOutcome_dispatched hout
  cases hr.symm.trans hr'
  let u := s.dispatched k i e.entry.kind r
  have hplanner : u.planner = p := (congrArg State.planner (s.dispatched_frame k i e.entry.kind r)).trans rfl
  have htrial : s.runTrial = u.recordTrial p.trialPosition e .dispatched := by
    rw [State.runTrial_of_entry hphase hrun he, State.tryEntry, hout, if_pos rfl, State.dispatch_eq hchannel hr]
    rfl
  have hend := State.recordTrial_dispatching u (by rw [hplanner]; exact hphase) p.trialPosition e .dispatched
  rw [hplanner] at hend
  refine ⟨_, hexec.trans (congrArg _ (htrial.trans hend)), ?_, fun j hj => ?_, ?_, fun n hn => ?_, ?_, fun z hz => ?_, ?_,
    fun g hg => ?_, ?_, rfl, ?_⟩
  · refine (State.dispatched_channelAt k).trans ((if_pos rfl).trans ?_)
    cases e.entry.kind <;> rfl
  · exact (State.dispatched_channelAt j).trans (if_neg (Ne.symm hj))
  · exact (State.dispatched_record? i).trans (if_pos rfl)
  · exact (State.dispatched_record? n).trans (if_neg (Ne.symm hn))
  · refine (State.dispatched_zoneAt r.zone).trans ((if_pos rfl).trans ?_)
    rw [hready]
    rfl
  · exact (State.dispatched_zoneAt z).trans (if_neg (Ne.symm hz))
  · exact (State.dispatched_segmentAt r.segment).trans (if_pos rfl)
  · exact (State.dispatched_segmentAt g).trans (if_neg (Ne.symm hg))
  · show (s.dispatched k i e.entry.kind r).link = _
    rw [State.dispatched_frame, State.bind_dispatch hr, State.bind_stallCount hr]
    cases e.entry.kind <;> rfl
  · have hu : u = _ := s.dispatched_frame k i e.entry.kind r
    rw [hu]

/-- Settles O30: the clamp; and the conditions one after another, the record's channel found by its binding. -/
theorem timingAndAbort : Obligations.TimingAndAbort := by
  constructor
  · intro seconds s n hready
    refine exec_of_effect (effect := setTimingEffect seconds) rfl hready ?_
    rw [setTimingEffect, clampTo_eq_ite (by decide), doneOr_eq_ite clamps_iff]
  · intro slot s c i carries hready
    have hc : course c = .action (abortTestEffect slot) := rfl
    have hcarries (k : Nat) : carries k ↔ s.channelOf? i = some k := State.channelOf?_eq_some.symm
    refine examined_onRecord hc hready rfl fun r _ hr he => ?_
    cases hk : s.channelOf? i with
    | none =>
      have hno : ¬∃ k, carries k := fun ⟨k, h⟩ => by cases hk.symm.trans ((hcarries k).mp h)
      refine ⟨fun _ => exec_of_effect hc hready ?_, fun h => absurd hno h⟩
      rw [he, hk]
    | some k =>
      have hcarry {j : Nat} : carries j ↔ j = k := by
        rw [hcarries, hk, Option.some.injEq, eq_comm]
      refine ⟨fun h => absurd ⟨k, hcarry.mpr rfl⟩ h, fun _ => ?_⟩
      have heffect : abortTestEffect slot s
          = if (s.channelAt k).state = .stopping ∨ (s.channelAt k).state = .aborting then (s, .noEffect)
            else (s.abortChannel k, .done) := by
        rw [he, hk]
      refine examined_cons hc hready heffect (by simp only [hcarry, exists_eq_left]) fun _ he j q hj hq => ?_
      cases hcarry.mp hj
      cases hr.symm.trans hq
      have hindex : (s.channelAt k).index = i := ((hcarries k).mpr hk).2.2.1
      refine completes_of_effect hc hready he ⟨?_, fun j hj => ?_, ?_, ?_⟩
      · exact (State.ordered_channelAt .abort k).trans (if_pos rfl)
      · exact (State.ordered_channelAt .abort j).trans (if_neg (Ne.symm hj))
      · exact State.ordered_link .abort (c := { s.waiting (s.channelAt k) .aborting with path := .order })
          ((congrArg s.record? hindex).trans hr)
      · rw [State.abortChannel, State.ordered_frame]
        rfl

/-- Settles O31: each expiry by whether its timer is due, and a close by the channel's state. -/
theorem expiries : Obligations.Expiries := by
  refine ⟨?_, ?_, ?_⟩
  · intro k s c due
    have hexec : exec (.runExpiry k) s = .next (s.expireRun k) := exec_of_own (c := .runExpiry k) rfl s
    have hdue : c.runDue = true ↔ due := c.runDue_iff
    refine ⟨fun hno => hexec.trans (congrArg _ (if_neg (mt hdue.mp hno))), fun r hyes hr => ?_⟩
    refine ⟨_, hexec.trans (congrArg _ (if_pos (hdue.mpr hyes))), ?_, fun j hj => ?_, ?_, State.ordered_frame .stop⟩
    · exact (State.ordered_channelAt .stop k).trans (if_pos rfl)
    · exact (State.ordered_channelAt .stop j).trans (if_neg (Ne.symm hj))
    · exact State.ordered_link .stop (c := s.waiting c .stopping) hr
  · intro k s c due detail
    have hexec : exec (.answerExpiry k) s = .next (s.expireAnswer k) := exec_of_own (c := .answerExpiry k) rfl s
    have hdue : c.answerDue = true ↔ due := by
      refine c.answerDue_iff.trans ?_
      show _ ↔ c.state ≠ .free ∧ c.state ≠ .running ∧ c.role = .answer ∧ c.target = 0
      cases c.state <;> simp
    have hclose (h : due) : exec (.answerExpiry k) s = .next (s.answerClose k) :=
      hexec.trans (congrArg _ (if_pos (hdue.mpr h)))
    refine ⟨fun hno => hexec.trans (congrArg _ (if_neg (mt hdue.mp hno))), fun h hst => ?_, fun h hst => ?_,
      fun h hst hpath => ?_, fun h hst hpath => ?_⟩
    · rw [hclose h, State.answerClose, hst]
    · rw [hclose h, State.answerClose, hst]
    · rw [hclose h, State.answerClose, hst, hpath]
      rfl
    · rw [hclose h, State.answerClose, hst, hpath]
      rfl
  · intro s
    have hexec : exec .stall s = .next s.raiseStall := exec_of_own (c := .stall) rfl s
    refine ⟨fun h => hexec.trans (congrArg _ (State.raiseStall_of_not_due h)), fun h => ?_⟩
    refine ⟨_, hexec.trans (congrArg _ (State.raiseStall_of_due h)), rfl, ?_, fun c hc => ?_, rfl⟩
    · rw [State.raise_causeAt, if_pos rfl]
      rfl
    · rw [State.raise_causeAt, if_neg (Ne.symm hc)]
      rfl

/-- Settles O32: the head's check, the match field by field, and the judgement named. -/
theorem reportTake : Obligations.ReportTake := by
  intro s hcalm
  have hexec : exec .reportTake s = .next s.takeReport := exec_event_calm (c := .reportTake) rfl hcalm
  refine ⟨fun hempty => hexec.trans ?_, fun w rest hqueue => ?_⟩
  · rw [State.takeReport, hempty]
  intro q u matched
  have htake : s.takeReport = if queueWordPasses s.link.sense w = true then u.receiveReport q else u.raise .linkCheck 0 := by
    rw [State.takeReport, hqueue]
  have hmatched : u.matched q = true ↔ matched := State.matched_iff
  refine ⟨fun hfail => ?_, fun hpass hno => ?_, fun hpass hyes => ?_⟩
  · rw [hexec, htake, if_neg (by rw [hfail]; exact Bool.false_ne_true)]
  · rw [hexec, htake, if_pos hpass, State.receiveReport, if_neg (mt hmatched.mp hno)]
    rfl
  · obtain ⟨kind, hkind⟩ := Option.isSome_iff_exists.mp (reportKindOf_isSome.mpr hyes.1)
    refine ⟨kind, hkind, ?_⟩
    rw [hexec, htake, if_pos hpass, State.receiveReport, if_pos (hmatched.mpr hyes), hkind]

/-- Settles O33: each row of the table by the branch of the judgement it names. -/
theorem reportTable : Obligations.ReportTable := by
  intro s k detail c judged stale ended void
  refine ⟨fun hst => ?_, fun hst => ?_, fun hst => ?_, fun hst kind => ?_, fun hst kind => ?_⟩
  · have hrow := State.judgeReport_ordered (detail := detail) hst
    refine ⟨fun r hr => ?_, fun h1 => ?_, fun h3 => ?_, fun h1 h3 => ?_, hrow .cutoff, hrow .lampFault, hrow .stopped,
      hrow .aborted⟩
    · have hstarted : judged .started = _ := (hrow .started).trans (State.startRun_eq hr)
      rw [hstarted]
      refine ⟨?_, fun j hj => ?_, ?_, fun n hn => ?_, fun hready z => ?_, ?_⟩
      · rw [State.channelAt_congr (State.transition_channels ..), State.setChannel_channelAt_self]
      · rw [State.channelAt_congr (State.transition_channels ..), State.setChannel_channelAt, if_neg (Ne.symm hj)]
      · exact (State.transition_record? ..).trans (if_pos rfl)
      · exact (State.transition_record? ..).trans (if_neg (Ne.symm hn))
      · refine (State.transition_zoneAt ..).trans ?_
        rw [hready]
        exact ite_self _
      · rw [State.transition_frame]
        rfl
    · subst h1; exact hrow .refused
    · subst h3; exact hrow .refused
    · have hrefused := hrow .refused
      rw [← refusedDetail_of_other h1 h3]
      exact hrefused
  · have hrow := State.judgeReport_running (detail := detail) hst
    exact ⟨hrow .started, hrow .refused, hrow .cutoff, hrow .lampFault, hrow .stopped, hrow .aborted⟩
  · have hrow := State.judgeReport_stopping (detail := detail) hst
    refine ⟨hrow .started, hrow .refused, hrow .cutoff, hrow .lampFault, fun hkind hlow => ?_, fun h => ?_,
      hrow .aborted⟩
    · refine (hrow .stopped).trans ?_
      rw [stoppedVerdict, if_pos ⟨hkind, hlow⟩]
    · refine (hrow .stopped).trans ?_
      rw [stoppedVerdict, if_neg]
      rintro ⟨hkind, hlow⟩
      rcases h with h | h
      · cases hkind.symm.trans h
      · exact h hlow
  · exact State.judgeReport_aborting hst kind
  · exact State.judgeReport_free hst kind

end

section
/-! PROOF. The close of a channel (R125), the halt mark and the commands of programme control, the link and the host port
(chapters 06 to 11). -/

namespace Sys2Proof.Machine

/-! ### The close (R125) -/

section
variable {s : State} {k : Nat} {r : Record} {v : Verdict} {d : Option Detail}

/-- What a close leaves alone, the link whole. -/
theorem State.close_frame_whole (s : State) (k : Nat) (v : Verdict) (d : Option Detail) :
    s.close k v d
      = { s with
          luminaires := (s.close k v d).luminaires
          zones := (s.close k v d).zones
          classes := (s.close k v d).classes
          lookup := (s.close k v d).lookup
          segments := (s.close k v d).segments
          channels := (s.close k v d).channels
          link := (s.close k v d).link
          programme := (s.close k v d).programme
          attention := (s.close k v d).attention } := by
  unfold State.close
  simp only
  rw [State.haltEnd_frame, State.registerClose_frame]; rfl

theorem State.unbind_stallCount_of_head {o : Order} {rest : List Order} (hq : s.link.dispatch = o :: rest) :
    (s.unbind k r v d).link.stallCount
      = if o.channel = k ∧ o.generation = (s.channelAt k).generation then 0 else s.link.stallCount := by
  have hlink : (s.settleRecord (s.channelAt k) r v d).link = s.link := by rw [State.settleRecord_frame]
  show (((s.settleRecord (s.channelAt k) r v d).lowerActive r.segment).withdraw k (s.channelAt k).generation).link.stallCount
    = _
  unfold State.withdraw
  simp only [State.lowerActive_link, hlink, hq, Order.belongs_iff]

theorem State.unbind_stallCount_of_empty (hq : s.link.dispatch = []) :
    (s.unbind k r v d).link.stallCount = s.link.stallCount := by
  have hlink : (s.settleRecord (s.channelAt k) r v d).link = s.link := by rw [State.settleRecord_frame]
  show (((s.settleRecord (s.channelAt k) r v d).lowerActive r.segment).withdraw k (s.channelAt k).generation).link.stallCount
    = _
  unfold State.withdraw
  simp only [State.lowerActive_link, hlink, hq]
  rfl

theorem State.settleRecord_retire (hpending : r.retirePending = true) (c : Channel) :
    s.settleRecord c r v d = s.freeRecord c.index r := if_pos hpending

theorem State.settleRecord_judge (hpending : r.retirePending = false) (c : Channel) :
    s.settleRecord c r v d
      = (s.transition c.index r (s.closed r (c.closing v d))).noticeEntry c.index (s.closed r (c.closing v d)).state :=
  if_neg (by rw [hpending]; exact Bool.false_ne_true)

/-- The end of a halt comes with the close of the last bound channel (R164). -/
theorem State.haltEnd_of_end (h : s.programme.state = .halting ∧ s.boundCount = 0) :
    s.haltEnd.programme = { s.programme with state := .stopped }
      ∧ s.haltEnd.causeAt .programme = { s.causeAt .programme with pending := true, carried := 0 } := by
  rw [State.haltEnd, if_pos h]
  refine ⟨rfl, ?_⟩
  rw [State.raiseProgramme, State.raise_causeAt, if_pos rfl]
  rfl

theorem State.haltEnd_of_not_end (h : ¬(s.programme.state = .halting ∧ s.boundCount = 0)) : s.haltEnd = s := if_neg h

/-- The last bound channel is the one that closes. -/
theorem State.unbind_boundCount_eq_zero :
    (s.unbind k r v d).boundCount = 0 ↔ ∀ j, j < 32 → j ≠ k → (s.channelAt j).state = .free := by
  rw [State.boundCount_eq_zero_iff]
  refine forall₂_congr fun j _ => ?_
  rw [State.unbind_channelAt]
  by_cases hjk : k = j
  · subst hjk
    exact iff_of_true (by rw [if_pos rfl]) fun h => absurd rfl h
  · rw [if_neg hjk]
    exact ⟨fun h _ => h, fun h => h (Ne.symm hjk)⟩

end

/-! ### The halt mark (R123) -/

section
variable {s : State} {m : SegMap}

theorem State.onMap_iff {k : Nat} :
    s.onMap k m = true ↔ ∃ r, s.record? (s.channelAt k).index = some r ∧ m.getLsbD r.segment = true := by
  unfold State.onMap
  cases s.record? (s.channelAt k).index with
  | none => simp
  | some r => simp [marked]

/-- A channel that a halt on the segments of `m` catches. -/
def State.haltCatches (s : State) (m : SegMap) (k : Nat) : Prop :=
  ((s.channelAt k).state = .ordered ∨ (s.channelAt k).state = .running ∨ (s.channelAt k).state = .stopping)
    ∧ ∃ r, s.record? (s.channelAt k).index = some r ∧ m.getLsbD r.segment = true

/-- A channel under the halt mark. -/
def State.haltMarked (s : State) (k : Nat) : Channel := { s.waiting (s.channelAt k) .aborting with path := .halt }

theorem State.haltMarkAt_of_caught {k : Nat} (h : s.haltCatches m k) :
    State.haltMarkAt m s k = s.setChannel k (s.haltMarked k) :=
  if_pos (Bool.and_eq_true_iff.mpr ⟨(Channel.takesHaltMark_iff _).mpr h.1, State.onMap_iff.mpr h.2⟩)

theorem State.haltMarkAt_of_not_caught {k : Nat} (h : ¬s.haltCatches m k) : State.haltMarkAt m s k = s :=
  if_neg fun hyes => by
    obtain ⟨htakes, hon⟩ := Bool.and_eq_true_iff.mp hyes
    exact h ⟨(Channel.takesHaltMark_iff _).mp htakes, State.onMap_iff.mp hon⟩

/-- The halt mark at one channel leaves the others, and whether they are caught. -/
theorem State.haltMarkAt_other {k j : Nat} (hkj : k ≠ j) :
    (State.haltMarkAt m s k).channelAt j = s.channelAt j
      ∧ ((State.haltMarkAt m s k).haltCatches m j ↔ s.haltCatches m j)
      ∧ (State.haltMarkAt m s k).haltMarked j = s.haltMarked j := by
  have hchannel : (State.haltMarkAt m s k).channelAt j = s.channelAt j := by
    by_cases h : s.haltCatches m k
    · rw [State.haltMarkAt_of_caught h, State.setChannel_channelAt, if_neg hkj]
    · rw [State.haltMarkAt_of_not_caught h]
  have hrecord (i : Nat) : (State.haltMarkAt m s k).record? i = s.record? i := by rw [State.haltMarkAt_frame]; rfl
  have htime : (State.haltMarkAt m s k).answerTime = s.answerTime := by rw [State.haltMarkAt_frame]
  refine ⟨hchannel, ?_, ?_⟩
  · simp only [State.haltCatches, hchannel, hrecord]
  · simp only [State.haltMarked, State.waiting, hchannel, htime]

theorem State.haltMark_channelAt (s : State) (m : SegMap) (j : Nat) :
    (j < 32 ∧ s.haltCatches m j → (s.haltMark m).channelAt j = s.haltMarked j)
      ∧ (¬(j < 32 ∧ s.haltCatches m j) → (s.haltMark m).channelAt j = s.channelAt j) := by
  have hfold (l : List Nat) (hl : l.Nodup) (s : State) :
      (j ∈ l ∧ s.haltCatches m j → (l.foldl (State.haltMarkAt m) s).channelAt j = s.haltMarked j)
        ∧ (¬(j ∈ l ∧ s.haltCatches m j) → (l.foldl (State.haltMarkAt m) s).channelAt j = s.channelAt j) := by
    induction l generalizing s with
    | nil => exact ⟨fun h => absurd h.1 List.not_mem_nil, fun _ => rfl⟩
    | cons k l ih =>
      obtain ⟨hk, hl⟩ := List.nodup_cons.mp hl
      obtain ⟨ihyes, ihno⟩ := ih hl (State.haltMarkAt m s k)
      rw [List.foldl_cons]
      by_cases hkj : k = j
      · subst hkj
        refine ⟨fun ⟨_, h⟩ => ?_, fun h => ?_⟩
        · rw [ihno fun h => hk h.1, State.haltMarkAt_of_caught h, State.setChannel_channelAt_self]
        · rw [ihno fun h => hk h.1, State.haltMarkAt_of_not_caught fun hc => h ⟨List.mem_cons_self, hc⟩]
      · obtain ⟨hchannel, hcatch, hmarked⟩ := State.haltMarkAt_other (s := s) (m := m) hkj
        rw [hcatch] at ihyes ihno
        refine ⟨fun ⟨hj, h⟩ => ?_, fun h => ?_⟩
        · exact (ihyes ⟨(List.mem_cons.mp hj).resolve_left (Ne.symm hkj), h⟩).trans hmarked
        · exact (ihno fun ⟨hj, hc⟩ => h ⟨List.mem_cons_of_mem k hj, hc⟩).trans hchannel
  have hall := hfold allChannels allChannels_nodup s
  rw [mem_allChannels] at hall
  exact hall

theorem State.writeHaltWord_of_room (h : s.link.haltBox = none ∧ s.pendingHalt ≠ 0) :
    s.writeHaltWord = { s with link := { s.link with haltBox := some s.pendingHalt }, pendingHalt := 0 } := if_pos h

theorem State.writeHaltWord_of_not (h : ¬(s.link.haltBox = none ∧ s.pendingHalt ≠ 0)) : s.writeHaltWord = s := if_neg h

theorem State.joinHalt_channelAt (s : State) (m : SegMap) (j : Nat) :
    (j < 32 ∧ s.haltCatches m j → (s.joinHalt m).channelAt j = s.haltMarked j)
      ∧ (¬(j < 32 ∧ s.haltCatches m j) → (s.joinHalt m).channelAt j = s.channelAt j) := by
  have hchannels : (s.joinHalt m).channels = (({ s with pendingHalt := s.pendingHalt ||| m } : State).haltMark m).channels := by
    unfold State.joinHalt
    rw [State.writeHaltWord_frame]
  obtain ⟨hyes, hno⟩ := State.haltMark_channelAt { s with pendingHalt := s.pendingHalt ||| m } m j
  rw [State.channelAt_congr hchannels]
  exact ⟨hyes, hno⟩

/-- Segments that join with a FREE mailbox go out as a halt word (R154). -/
theorem State.joinHalt_of_room (h : s.link.haltBox = none ∧ s.pendingHalt ||| m ≠ 0) :
    ∃ channels, s.joinHalt m
      = { s with
          channels := channels
          link := { s.link with haltBox := some (s.pendingHalt ||| m) }
          pendingHalt := 0 } := by
  obtain ⟨channels, hmark⟩ : ∃ channels, ({ s with pendingHalt := s.pendingHalt ||| m } : State).haltMark m
      = { s with pendingHalt := s.pendingHalt ||| m, channels := channels } := ⟨_, State.haltMark_frame _ m⟩
  unfold State.joinHalt
  rw [hmark]
  exact ⟨channels, State.writeHaltWord_of_room h⟩

theorem State.joinHalt_of_not (h : ¬(s.link.haltBox = none ∧ s.pendingHalt ||| m ≠ 0)) :
    ∃ channels, s.joinHalt m = { s with channels := channels, pendingHalt := s.pendingHalt ||| m } := by
  obtain ⟨channels, hmark⟩ : ∃ channels, ({ s with pendingHalt := s.pendingHalt ||| m } : State).haltMark m
      = { s with pendingHalt := s.pendingHalt ||| m, channels := channels } := ⟨_, State.haltMark_frame _ m⟩
  unfold State.joinHalt
  rw [hmark]
  exact ⟨channels, State.writeHaltWord_of_not h⟩

/-- What joining segments to the pending halt set leaves alone. -/
theorem State.joinHalt_frame (s : State) (m : SegMap) :
    s.joinHalt m
      = { s with
          channels := (s.joinHalt m).channels, link := (s.joinHalt m).link, pendingHalt := (s.joinHalt m).pendingHalt } := by
  by_cases h : s.link.haltBox = none ∧ s.pendingHalt ||| m ≠ 0
  · obtain ⟨channels, hjoin⟩ := State.joinHalt_of_room h
    rw [hjoin]
  · obtain ⟨channels, hjoin⟩ := State.joinHalt_of_not h
    rw [hjoin]

theorem getLsbD_markOf {g h : Nat} (hg : g < 16) : (markOf g).getLsbD h = true ↔ h = g := by
  rw [markOf, BitVec.getLsbD_ofNat, Nat.testBit_two_pow, Bool.and_eq_true, decide_eq_true_iff, decide_eq_true_iff]
  omega

/-- The segments whose active count is above 0 (R163). -/
theorem State.activeSegments_iff (s : State) (h : Nat) :
    s.activeSegments.getLsbD h = true ↔ h < 16 ∧ 0 < (s.segmentAt h).active := by
  have hfold (l : List Nat) (hl : ∀ g ∈ l, g < 16) (m : SegMap) :
      (l.foldl (fun m g => if 0 < (s.segmentAt g).active then m ||| markOf g else m) m).getLsbD h = true
        ↔ m.getLsbD h = true ∨ h ∈ l ∧ 0 < (s.segmentAt h).active := by
    induction l generalizing m with
    | nil => simp
    | cons g l ih =>
      rw [List.foldl_cons, ih fun x hx => hl x (List.mem_cons_of_mem g hx), List.mem_cons]
      have hg := hl g List.mem_cons_self
      split
      next hactive =>
        rw [BitVec.getLsbD_or, Bool.or_eq_true, getLsbD_markOf hg]
        constructor
        · rintro ((hm | rfl) | hrest)
          · exact .inl hm
          · exact .inr ⟨.inl rfl, hactive⟩
          · exact .inr ⟨.inr hrest.1, hrest.2⟩
        · rintro (hm | ⟨hh | hh, ha⟩)
          · exact .inl (.inl hm)
          · exact .inl (.inr hh)
          · exact .inr ⟨hh, ha⟩
      next hidle =>
        refine or_congr_right ⟨fun hrest => ⟨.inr hrest.1, hrest.2⟩, fun ⟨hh, ha⟩ => ⟨hh.resolve_left ?_, ha⟩⟩
        rintro rfl
        exact hidle ha
  refine (hfold allSegments (fun g hg => by simpa [allSegments, Config.segmentCount] using hg) 0).trans ?_
  simp [allSegments, Config.segmentCount]

end

/-! ### The attention levels (R182) -/

theorem Cause.all_nodup : Cause.all.Nodup := by decide

section
variable (level : Cause → Nat)

theorem foldl_setLevel_causeAt {l : List Cause} (hl : l.Nodup) (s : State) (d : Cause) :
    (l.foldl (fun acc c => acc.setCause c { acc.causeAt c with level := level c }) s).causeAt d
      = if d ∈ l then { s.causeAt d with level := level d } else s.causeAt d := by
  induction l generalizing s with
  | nil => simp
  | cons c l ih =>
    obtain ⟨hc, hl⟩ := List.nodup_cons.mp hl
    rw [List.foldl_cons, ih hl, State.setCause_causeAt]
    by_cases hcd : c = d
    · subst hcd
      rw [if_neg hc, if_pos rfl, if_pos List.mem_cons_self]
    · simp only [if_neg hcd, List.mem_cons, Ne.symm hcd, false_or]

theorem foldl_setLevel_frame (l : List Cause) (s : State) :
    ∃ causes, l.foldl (fun acc c => acc.setCause c { acc.causeAt c with level := level c }) s
      = { s with attention := { s.attention with causes := causes } } :=
  foldl_keeps (P := fun t => ∃ causes, t = { s with attention := { s.attention with causes := causes } })
    (fun t c ⟨causes, ht⟩ => by rw [ht]; exact ⟨_, rfl⟩) l ⟨_, rfl⟩

end

/-- A level is clamped for some cause exactly where some byte is above 7. -/
theorem any_levelByte_iff {levels : List Byte} (h : levels.length = 8) :
    (Cause.all.any fun c => clamps 0 7 (levelByte levels c)) = true ↔ ∃ b ∈ levels, 7 < b.toNat := by
  have hcause (i : Nat) (hi : i < 8) : ∃ c : Cause, c.number = i + 1 := by
    interval_cases i
    exacts [⟨.faultFound, rfl⟩, ⟨.silentFound, rfl⟩, ⟨.mainsChange, rfl⟩, ⟨.overdue, rfl⟩, ⟨.linkCheck, rfl⟩,
      ⟨.linkStall, rfl⟩, ⟨.programme, rfl⟩, ⟨.staleReport, rfl⟩]
  have hnumber (c : Cause) : c.number - 1 < levels.length := by rw [h]; cases c <;> decide
  have hbyte (c : Cause) : levelByte levels c = (levels[c.number - 1]'(hnumber c)).toNat := by
    rw [levelByte, List.getD_eq_getElem _ _ (hnumber c)]
  simp only [List.any_eq_true, clamps_iff, Nat.not_lt_zero, false_or]
  constructor
  · rintro ⟨c, -, hc⟩
    exact ⟨_, List.getElem_mem (hnumber c), hbyte c ▸ hc⟩
  · rintro ⟨b, hb, hlt⟩
    obtain ⟨i, hi, rfl⟩ := List.getElem_of_mem hb
    obtain ⟨c, hc⟩ := hcause i (h ▸ hi)
    refine ⟨c, Cause.mem_all c, ?_⟩
    have hi' : c.number - 1 = i := by omega
    rw [hbyte]
    simpa only [hi'] using hlt

/-- The levels written from the bytes of a SET ATTENTION LEVELS. -/
def State.withLevels (s : State) (levels : List Byte) : State :=
  Cause.all.foldl (fun acc c => acc.setCause c { acc.causeAt c with level := clampTo 0 7 (levelByte levels c) }) s

theorem State.withLevels_causeAt (s : State) (levels : List Byte) (c : Cause) :
    (s.withLevels levels).causeAt c = { s.causeAt c with level := clampTo 0 7 (levelByte levels c) } := by
  unfold State.withLevels
  rw [foldl_setLevel_causeAt (fun c => clampTo 0 7 (levelByte levels c)) Cause.all_nodup, if_pos (Cause.mem_all c)]

theorem State.withLevels_frame (s : State) (levels : List Byte) :
    ∃ causes, s.withLevels levels = { s with attention := { s.attention with causes := causes } } :=
  foldl_setLevel_frame (fun c => clampTo 0 7 (levelByte levels c)) Cause.all s

theorem setLevelsEffect_eq (s : State) {levels : List Byte} (h : levels.length = 8) :
    setLevelsEffect levels s
      = (s.withLevels levels, if ∃ b ∈ levels, 7 < b.toNat then .doneClamped else .done) := by
  rw [setLevelsEffect, doneOr_eq_ite (any_levelByte_iff h), State.withLevels]

/-! ### The codes of CONFIGURE LINK -/

theorem senseOfCode_eq (b : Byte) : senseOfCode b = if 1 < b.toNat then none else some (if b = 0 then .odd else .even) := by
  revert b
  decide

theorem thresholdOfCode_eq (b : Byte) :
    thresholdOfCode b = if 3 < b.toNat then none else some (8 * (b.toNat + 1)) := by
  revert b
  decide

theorem loopbackOfCode_eq (b : Byte) : loopbackOfCode b = if 1 < b.toNat then none else some (b == 1) := by
  revert b
  decide

end Sys2Proof.Machine

open Sys2Proof.Machine

/-- Settles O34: the close is the settling of the record, the unbinding and the end of a halt, each by its rule. -/
theorem close : Obligations.Close := by
  intro s k v d r c h after t own hr hk hfree
  let u := s.unbind k r v d
  have ht : t = u.haltEnd := State.close_eq hr
  have hlink : t.link = u.link := by rw [ht, State.haltEnd_frame]
  have hrecord (j : Nat) : t.record? j = (s.settleRecord c r v d).record? j := by rw [ht, State.haltEnd_frame]; rfl
  have hzone (z : Nat) : t.zoneAt z = (s.settleRecord c r v d).zoneAt z := by rw [ht, State.haltEnd_frame]; rfl
  have hcause {n : Cause} (hn : n ≠ .programme) : t.causeAt n = (s.settleRecord c r v d).causeAt n := by
    rw [ht, State.haltEnd_causeAt u hn]; rfl
  have hdispatch : t.link.dispatch = s.link.dispatch.filter fun o => !o.belongs k c.generation := by
    rw [hlink]; exact State.unbind_dispatch
  have hmap : t.attention.changeMap = s.attention.changeMap := by
    rw [ht, State.haltEnd_changeMap]
    exact s.settleRecord_changeMap c r v d
  have hprogramme : u.programme = s.programme := by
    show (s.unbind k r v d).programme = _
    rw [State.unbind_frame]
  have hprogrammeCause : u.causeAt .programme = s.causeAt .programme :=
    (s.settleRecord_causeAt c r v d .programme).resolve_right fun hraised => by simp at hraised
  have hend : u.programme.state = .halting ∧ u.boundCount = 0
      ↔ s.programme.state = .halting ∧ ∀ j, j < 32 → j ≠ k → (s.channelAt j).state = .free := by
    rw [hprogramme, State.unbind_boundCount_eq_zero]
  refine ⟨?_, fun j hj => ?_, ?_, fun g hg => ?_, fun o => ?_, ?_, fun ⟨o, rest, hq, ho⟩ => ?_, fun hother => ?_, ?_,
    fun hpending => ?_, fun hpending => ?_, fun he => ?_, fun he => ?_, fun n hf hs hp => ?_, ?_⟩
  · exact (s.close_channelAt k v d k).trans (if_pos rfl)
  · exact (s.close_channelAt k v d j).trans (if_neg (Ne.symm hj))
  · rw [ht, State.haltEnd_frame]
    exact (State.unbind_segmentAt r.segment).trans (if_pos rfl)
  · rw [ht, State.haltEnd_frame]
    exact (State.unbind_segmentAt g).trans (if_neg (Ne.symm hg))
  · rw [hdispatch, List.mem_filter, Bool.not_eq_true', ← Bool.not_eq_true, Order.belongs_iff]
  · rw [hdispatch]
    exact List.filter_sublist
  · rw [hlink]
    exact (State.unbind_stallCount_of_head hq).trans (if_pos ho)
  · rw [hlink]
    cases hq : s.link.dispatch with
    | nil => exact State.unbind_stallCount_of_empty hq
    | cons o rest => exact (State.unbind_stallCount_of_head hq).trans (if_neg (hother o rest hq))
  · rw [hlink]
    exact s.unbind_link k r v d
  · have hsettled : s.settleRecord c r v d = s.freeRecord c.index r := State.settleRecord_retire hpending c
    refine ⟨?_, ?_, ?_, ?_, ?_, ?_⟩
    · rw [← hsettled, ht, State.haltEnd_frame]; rfl
    · rw [← hsettled, ht, State.haltEnd_frame]; rfl
    · rw [← hsettled, ht, State.haltEnd_frame]; rfl
    · rw [← hsettled, ht, State.haltEnd_frame]; rfl
    · rw [hcause (by decide), hsettled, State.freeRecord_frame]; rfl
    · rw [hcause (by decide), hsettled, State.freeRecord_frame]; rfl
  · have hsettled := State.settleRecord_judge (s := s) (v := v) (d := d) hpending c
    have hnotice (n : Cause) := (s.transition c.index r (s.closed r (c.closing v d))).noticeEntry_causeAt c.index
      (s.closed r (c.closing v d)).state n
    have hplace := s.closed_samePlace r (c.closing v d)
    have hrec (j : Nat) : t.record? j = if c.index = j then some (s.closed r (c.closing v d)) else s.record? j := by
      rw [hrecord, hsettled, State.noticeEntry_frame]
      exact State.transition_record? s c.index r _ j
    have hz (z : Nat) : t.zoneAt z
        = if r.zone = z then (s.zoneAt z).recount r.state after.state else s.zoneAt z := by
      rw [hzone, hsettled, State.noticeEntry_frame, ← hplace.zone]
      exact State.transition_zoneAt s c.index r _ z
    refine ⟨?_, fun n hn => ?_, ?_, fun z hne => ?_, ?_, ?_, fun h => ?_, fun h => ?_, fun h => ?_, fun h => ?_⟩
    · rw [hrec, if_pos rfl]; rfl
    · rw [hrec, if_neg (Ne.symm hn)]
    · rw [hz, if_pos rfl, Zone.recount, RecordState.uncoveredCount_eq, RecordState.uncoveredCount_eq]
    · rw [hz, if_neg (Ne.symm hne)]
    · rw [ht, State.haltEnd_frame]
      show (s.settleRecord c r v d).classes = _
      rw [hsettled, State.noticeEntry_frame]; rfl
    · rw [ht, State.haltEnd_frame]
      show (s.settleRecord c r v d).lookup = _
      rw [hsettled, State.noticeEntry_frame]; rfl
    · rw [hcause (by decide), hsettled]
      exact (hnotice _).trans (if_pos (.inl ⟨h, rfl⟩))
    · rw [hcause (by decide), hsettled]
      refine (hnotice _).trans (if_neg ?_)
      rintro (⟨hf, -⟩ | ⟨-, hs⟩)
      · exact h hf
      · cases hs
    · rw [hcause (by decide), hsettled]
      exact (hnotice _).trans (if_pos (.inr ⟨h, rfl⟩))
    · rw [hcause (by decide), hsettled]
      refine (hnotice _).trans (if_neg ?_)
      rintro (⟨-, hf⟩ | ⟨hs, -⟩)
      · cases hf
      · exact h hs
  · obtain ⟨hstopped, hnotice⟩ := State.haltEnd_of_end (hend.mpr he)
    rw [ht, hstopped, hnotice, hprogramme, hprogrammeCause]
    exact ⟨rfl, rfl⟩
  · rw [ht, State.haltEnd_of_not_end (mt hend.mp he)]
    exact ⟨hprogramme, hprogrammeCause⟩
  · rw [hcause hp]
    exact (s.settleRecord_causeAt c r v d n).resolve_right fun hraised => hraised.1.elim hf hs
  · rw [← hmap]
    exact s.close_frame_whole k v d

/-- Settles O35: the three codes decoded, and the halt word written where the pending halt set has members. -/
theorem configureLink : Obligations.ConfigureLink := by
  intro sense threshold loopback s c cs hready
  have hc : course c = .action (configureLinkEffect sense threshold loopback) := rfl
  have heffect : configureLinkEffect sense threshold loopback s
      = if 1 < sense.toNat ∨ 3 < threshold.toNat ∨ 1 < loopback.toNat then (s, .outOfRange)
        else if s.programme.state ≠ .stopped then (s, .wrongState)
        else (({ s with link := configured cs (8 * (threshold.toNat + 1)) (loopback == 1) }).writeHaltWord, .done) := by
    unfold configureLinkEffect
    rw [senseOfCode_eq, thresholdOfCode_eq, loopbackOfCode_eq]
    by_cases hs : 1 < sense.toNat
    · rw [if_pos hs, if_pos (Or.inl hs)]
    by_cases ht : 3 < threshold.toNat
    · rw [if_neg hs, if_pos ht, if_pos (Or.inr (Or.inl ht))]
    by_cases hl : 1 < loopback.toNat
    · rw [if_neg hs, if_neg ht, if_pos hl, if_pos (Or.inr (Or.inr hl))]
    rw [if_neg hs, if_neg ht, if_neg hl, if_neg (not_or.mpr ⟨hs, not_or.mpr ⟨ht, hl⟩⟩)]
  refine examined_cons hc hready heffect Iff.rfl fun _ he => ?_
  refine examined_cons hc hready he Iff.rfl fun _ he => ?_
  refine (exec_of_effect hc hready he).trans (congrArg _ ?_)
  have hbox : (if (loopback == 1) = true then some (boxWord cs 0xFFFF#16) else none)
      = if loopback = 1 then some (boxWord cs 0xFFFF#16) else none := if_congr beq_iff_eq rfl rfl
  by_cases hp : s.pendingHalt = 0
  · refine (congrArg (State.finish · .done)
      (State.writeHaltWord_of_not (s := { s with link := configured cs _ _ }) fun h => h.2 hp)).trans ?_
    rw [configured, hbox, if_pos hp, ← hp]
    rfl
  · refine (congrArg (State.finish · .done)
      (State.writeHaltWord_of_room (s := { s with link := configured cs _ _ }) ⟨rfl, hp⟩)).trans ?_
    simp only [configured]
    rw [hbox, if_neg hp]
    rfl

/-- Settles O40: the halt mark channel by channel, and the halt word by whether the mailbox has room. -/
theorem haltSegments : Obligations.HaltSegments := by
  intro m s c caught hready
  have hc : course c = .action (haltSegmentsEffect m) := rfl
  refine examined_cons hc hready rfl Iff.rfl fun hm he => ?_
  refine completes_of_effect hc hready he ⟨fun k hk => ?_, fun k hk => ?_, fun hfree => ?_, fun hfull => ?_⟩
  · rw [State.finish_channelAt]; exact (s.joinHalt_channelAt m k).1 hk
  · rw [State.finish_channelAt]; exact (s.joinHalt_channelAt m k).2 hk
  · have hjoined : s.pendingHalt ||| m ≠ 0 := fun h => hm (BitVec.or_eq_zero_iff.mp h).2
    obtain ⟨channels, hjoin⟩ := State.joinHalt_of_room ⟨hfree, hjoined⟩
    rw [hjoin]
    rfl
  · obtain ⟨channels, hjoin⟩ := State.joinHalt_of_not (s := s) (m := m) fun h => hfull h.1
    rw [hjoin]
    rfl

/-- Settles O42: the conditions one after another, and the programme's fields as each command writes them. -/
theorem startSuspendResume : Obligations.StartSuspendResume := by
  intro s
  refine ⟨fun hready => ?_, ?_, fun hready => ?_⟩
  · have hc : course .start = .action startEffect := rfl
    refine examined_cons hc hready rfl Iff.rfl fun _ he => ?_
    refine examined_cons hc hready he Iff.rfl fun _ he => ?_
    exact examined_cons hc hready he Iff.rfl fun _ he => exec_of_effect hc hready he
  · intro flag minute c hready
    have hc : course c = .action (suspendEffect flag minute) := rfl
    refine examined_cons hc hready rfl Iff.rfl fun _ he => ?_
    have hflag : (if flagOf flag = true then some minute.toNat else none)
        = if flag = 0 then none else some minute.toNat := by
      rw [← ite_not (flag = 0)]
      exact if_congr (flagOf_iff flag) rfl rfl
    rw [← hflag]
    exact exec_of_effect hc hready he
  · have hc : course .resume = .action resumeEffect := rfl
    exact examined_cons hc hready rfl Iff.rfl fun _ he => exec_of_effect hc hready he

/-- Settles O43: at once where no channel is bound; otherwise as HALT SEGMENTS on the segments with an active count. -/
theorem halt : Obligations.Halt := by
  intro s active caught hready
  have hc : course .halt = .action haltEffect := rfl
  refine examined_cons hc hready rfl Iff.rfl fun _ he => ⟨fun hfree => ?_, fun ⟨k, hk, hbound⟩ => ?_⟩
  · exact exec_of_effect hc hready (he.trans (if_pos (s.boundCount_eq_zero_iff.mpr hfree)))
  let u : State := { s with programme := { state := .halting, resumeMinute := none } }
  have hjoin : haltEffect s = (u.joinHalt s.activeSegments, .done) :=
    he.trans (if_neg fun h => hbound (s.boundCount_eq_zero_iff.mp h k hk))
  have hcaught (j : Nat) : caught j ↔ j < 32 ∧ u.haltCatches s.activeSegments j := by
    simp only [State.haltCatches, State.activeSegments_iff]
    rfl
  have hmember (g : Nat) : (s.pendingHalt ||| s.activeSegments).getLsbD g = true
      ↔ s.pendingHalt.getLsbD g = true ∨ active g := by
    rw [BitVec.getLsbD_or, Bool.or_eq_true, State.activeSegments_iff]
  obtain ⟨channels, link, pending, hframe⟩ : ∃ channels link pending, u.joinHalt s.activeSegments
      = { u with channels := channels, link := link, pendingHalt := pending } := ⟨_, _, _, State.joinHalt_frame u _⟩
  refine completes_of_effect hc hready hjoin ⟨?_, fun j hj => ?_, fun j hj => ?_,
    ⟨s.pendingHalt ||| s.activeSegments, hmember, fun hfree hne => ?_, fun hnot => ?_⟩, ?_⟩
  · rw [hframe]
    rfl
  · rw [State.finish_channelAt]; exact (u.joinHalt_channelAt _ j).1 ((hcaught j).mp hj)
  · rw [State.finish_channelAt]; exact (u.joinHalt_channelAt _ j).2 (mt (hcaught j).mpr hj)
  · obtain ⟨channels, hjoined⟩ := State.joinHalt_of_room (s := u) (m := s.activeSegments) ⟨hfree, hne⟩
    rw [hjoined]
    exact ⟨rfl, rfl⟩
  · obtain ⟨channels, hjoined⟩ := State.joinHalt_of_not (s := u) (m := s.activeSegments)
      fun h => hnot.elim (fun hfull => hfull h.1) fun hz => h.2 hz
    rw [hjoined]
    exact ⟨rfl, rfl⟩
  · rw [hframe]
    rfl

/-- Settles O44: the turnaround's clamp by its values, and the levels cause by cause. -/
theorem portSettings : Obligations.PortSettings := by
  constructor
  · intro bytes s n v hready
    have hv : turnaroundOf n = v := by
      simp only [turnaroundOf, v]
      split
      · rfl
      · split_ifs <;> omega
    have heffect : setTurnaroundEffect bytes s
        = ({ s with port := { s.port with turnaround := v } }, if n = v then .done else .doneClamped) := by
      rw [setTurnaroundEffect, hv, doneOr_eq_ite decide_eq_true_iff, ← ite_not (n = v)]
      exact congrArg _ (if_congr ne_comm rfl rfl)
    refine completes_of_effect (effect := setTurnaroundEffect bytes) rfl hready heffect ⟨rfl, fun count => rfl⟩
  · intro levels s hlength hready
    have hc : course (.setAttentionLevels levels) = .action (setLevelsEffect levels) := rfl
    obtain ⟨causes, hframe⟩ := s.withLevels_frame levels
    have hcauses := s.withLevels_causeAt levels
    have heffect := setLevelsEffect_eq s hlength
    generalize s.withLevels levels = u at hframe hcauses heffect
    refine completes_of_effect hc hready heffect ⟨fun n b hb => ?_, ?_⟩
    · have hbyte : levelByte levels n = b.toNat := by rw [levelByte, List.getD_eq_getElem?_getD, hb]; rfl
      rw [State.finish_causeAt, hcauses, hbyte, clampTo_eq_ite (by decide), if_neg (Nat.not_lt_zero _)]
    · rw [hframe]
      rfl

end

section
/-! PROOF. The segment link's words and their check bits, and the link port: the concentrator's takes and writes and the
link's own take in loopback (chapter 07). -/

namespace Sys2Proof.Machine

/-! ### Check bits (R134) -/

/-- Two properties that exclude each other or not: the places where exactly one holds are, up to an even number, those of
the one and those of the other together. -/
theorem countP_xor_mod_two {α : Type} (f p : α → Bool) (l : List α) :
    (l.countP fun x => f x ^^ p x) % 2 = (l.countP f + l.countP p) % 2 := by
  induction l with
  | nil => rfl
  | cons x l ih =>
    simp only [List.countP_cons]
    cases f x <;> cases p x <;> simp <;> omega

theorem onesOf_xor (a b : Byte) : onesOf (a ^^^ b) % 2 = (onesOf a + onesOf b) % 2 := by
  simp only [onesOf, ← List.countP_eq_length_filter, BitVec.getLsbD_xor]
  exact countP_xor_mod_two _ _ _

theorem onesOf_single {n : Nat} (hn : n < 8) : onesOf (BitVec.ofNat 8 (2 ^ n)) = 1 := by
  revert n; decide

theorem bytePasses_sealed (sense : CheckSense) (b : Byte) : bytePasses sense (sealed sense b) = true := by
  simp [bytePasses, sealed]

theorem bytePasses_iff_ones (sense : CheckSense) (b : LinkByte) :
    bytePasses sense b = true
      ↔ (onesOf b.data + (if b.check = true then 1 else 0)) % 2 = (match sense with | .odd => 1 | .even => 0) := by
  rcases Nat.mod_two_eq_zero_or_one (onesOf b.data) with h | h <;>
    cases hc : b.check <;> cases sense <;> simp [bytePasses, checkBit, h, hc] <;> omega

/-- A byte changed where `m` has its single one takes the other check bit. -/
theorem checkBit_xor (sense : CheckSense) (b : Byte) {m : Byte} (hm : onesOf m = 1) :
    checkBit sense (b ^^^ m) = !checkBit sense b := by
  have hxor := onesOf_xor b m
  have hflip : onesOf (b ^^^ m) % 2 = 1 - onesOf b % 2 := by omega
  rcases Nat.mod_two_eq_zero_or_one (onesOf b) with h | h <;> cases sense <;> simp [checkBit, hflip, h]

/-! ### Words (R131 to R133) -/

theorem queueWordPasses_reportWord (sense : CheckSense) (r : Report) :
    queueWordPasses sense (reportWord sense r) = true := by
  simp [queueWordPasses, reportWord, bytePasses_sealed]

theorem queueWordPasses_orderWord (sense : CheckSense) (o : Order) :
    queueWordPasses sense (orderWord sense o) = true := by
  simp [queueWordPasses, orderWord, bytePasses_sealed]

theorem boxWordPasses_boxWord (sense : CheckSense) (m : SegMap) :
    boxWordPasses sense (boxWord sense m) = true := by
  simp [boxWordPasses, boxWord, bytePasses_sealed]

section
variable (sense : CheckSense) {p : Report} (hkind : p.kind < 8) (hchannel : p.channel < 32)
  (hgeneration : p.generation < 16) (hdetail : p.detail < 16) (haddress : p.address < 256)
include hkind hchannel hgeneration hdetail haddress

theorem reportWord_toNat :
    (reportWord sense p).b0.data.toNat = p.kind * 32 + p.channel
      ∧ (reportWord sense p).b1.data.toNat = p.generation * 16 + p.detail
      ∧ (reportWord sense p).b2.data.toNat = p.address := by
  simp only [reportWord, sealed, BitVec.toNat_ofNat]
  refine ⟨?_, ?_, ?_⟩ <;> omega

theorem reportOf_reportWord : reportOf (reportWord sense p) = p := by
  obtain ⟨h0, h1, h2⟩ := reportWord_toNat sense hkind hchannel hgeneration hdetail haddress
  obtain ⟨kind, channel, generation, detail, address⟩ := p
  rw [reportOf, h0, h1, h2, Report.mk.injEq]
  dsimp only at hkind hchannel hgeneration hdetail haddress ⊢
  refine ⟨?_, ?_, ?_, ?_, rfl⟩ <;> omega

end

theorem orderWord_fields (sense : CheckSense) {o : Order} (hchannel : o.channel < 32)
    (hgeneration : o.generation < 16) (hsegment : o.segment < 16) (haddress : o.address < 256) :
    let w := orderWord sense o
    w.b0.data.toNat / 64 = o.kind.code ∧ w.b0.data.toNat / 2 % 32 = o.channel ∧ w.b0.data.toNat % 2 = 0
      ∧ w.b1.data.toNat / 16 = o.generation ∧ w.b1.data.toNat % 16 = o.segment ∧ w.b2.data.toNat = o.address := by
  have hcode : o.kind.code < 4 := by cases o.kind <;> decide
  simp only [orderWord, sealed, BitVec.toNat_ofNat]
  refine ⟨?_, ?_, ?_, ?_, ?_, ?_⟩ <;> omega

theorem getLsbD_segMapOf (a b : Byte) {n : Nat} (hn : n < 8) :
    (segMapOf a b).getLsbD n = a.getLsbD n ∧ (segMapOf a b).getLsbD (8 + n) = b.getLsbD n := by
  constructor
  · exact BitVec.getLsbD_append.trans (if_pos hn)
  · exact BitVec.getLsbD_append.trans (by simp)

theorem mapOf_boxWord (sense : CheckSense) (m : SegMap) : mapOf (boxWord sense m) = m := by
  refine BitVec.eq_of_getLsbD_eq fun n hn => ?_
  simp only [mapOf, boxWord, sealed, segMapOf, BitVec.getLsbD_append, BitVec.getLsbD_extractLsb']
  by_cases h : n < 8
  · simp [h]
  · have hlow : n - 8 < 8 := by omega
    simp [h, hlow, Nat.add_sub_cancel' (Nat.le_of_not_lt h)]

theorem getLsbD_boxWord (sense : CheckSense) (m : SegMap) {n : Nat} (hn : n < 8) :
    (boxWord sense m).b0.data.getLsbD n = m.getLsbD n
      ∧ (boxWord sense m).b1.data.getLsbD n = m.getLsbD (8 + n) := by
  simp [boxWord, sealed, hn]

theorem reportKindOf_eq_some (n : Nat) (kind : ReportKind) :
    reportKindOf n = some kind
      ↔ (n, kind)
        ∈ [(0, .started), (1, .refused), (2, .cutoff), (3, .lampFault), (4, .stopped), (5, .aborted)] := by
  unfold reportKindOf
  split
  case h_7 h0 h1 h2 h3 h4 h5 =>
    simp only [reduceCtorEq, List.mem_cons, Prod.mk.injEq, List.not_mem_nil, false_iff]
    rintro (⟨h, -⟩ | ⟨h, -⟩ | ⟨h, -⟩ | ⟨h, -⟩ | ⟨h, -⟩ | ⟨h, -⟩ | h)
    exacts [h0 h, h1 h, h2 h, h3 h, h4 h, h5 h, h]
  all_goals cases kind <;> simp

/-! ### The takes and writes (R136, R139, R143, R144) -/

section
variable {s : State} {o : Order} {rest : List Order}

theorem State.takeOrder_of_not (h : s.link.configured = false ∨ s.link.loopback = true ∨ s.link.dispatch = []) :
    s.takeOrder = s := by
  unfold State.takeOrder
  split
  · rfl
  · next o rest hq =>
    refine if_neg fun ⟨hconfigured, hloop⟩ => ?_
    simp [hconfigured, hloop, hq] at h

theorem State.takeOrder_of_head (hconfigured : s.link.configured = true) (hloop : s.link.loopback = false)
    (hq : s.link.dispatch = o :: rest) :
    s.takeOrder
      = { s with
          link := { s.link with dispatch := rest, stallCount := 0, stallLatch := false }
          line := { s.line with order := some (orderWord s.link.sense o) } } := by
  simp [State.takeOrder, State.dropHead, hq, hconfigured, hloop]

theorem State.takeLoopback_of_not
    (h : s.link.configured = false ∨ s.link.loopback = false ∨ s.link.dispatch = [] ∨ 64 ≤ s.link.reports.length) :
    s.takeLoopback = s := by
  unfold State.takeLoopback
  split
  · rfl
  · next o rest hq =>
    refine if_neg fun ⟨hconfigured, hloop, hroom⟩ => ?_
    simp [hconfigured, hloop, hq, Config.reportLimit] at h hroom
    omega

theorem State.takeLoopback_of_head (hconfigured : s.link.configured = true) (hloop : s.link.loopback = true)
    (hq : s.link.dispatch = o :: rest) (hroom : s.link.reports.length < 64) :
    s.takeLoopback
      = { s with
          link :=
            { s.link with
              dispatch := rest, stallCount := 0, stallLatch := false
              reports := s.link.reports ++ [reportWord s.link.sense (loopbackAnswer o)] } } := by
  simp [State.takeLoopback, State.dropHead, hq, hconfigured, hloop, hroom, Config.reportLimit]

theorem loopbackAnswer_kind_lt (o : Order) : (loopbackAnswer o).kind < 8 := by
  unfold loopbackAnswer
  cases o.kind <;> simp

/-- The answer of R144: STARTED to a START, STOPPED to a STOP, ABORTED to an ABORT. -/
theorem reportKindOf_loopbackAnswer (o : Order) :
    reportKindOf (loopbackAnswer o).kind
      = some
        (match o.kind with
          | .startFunction => .started
          | .startDuration => .started
          | .stop => .stopped
          | .abort => .aborted) := by
  unfold loopbackAnswer
  cases o.kind <;> rfl

end

end Sys2Proof.Machine

open Sys2Proof.Machine

/-- Settles O37: every byte's check by the count of its ones, which one changed bit makes odd or even. -/
theorem linkWords : Obligations.LinkWords := by
  unfold Obligations.LinkWords
  refine ⟨fun sense => ⟨fun p hkind hchannel hgeneration hdetail haddress => ?_,
    fun o hchannel hgeneration hsegment haddress => ?_, fun m => ?_, fun b => ⟨?_, fun hpass => ⟨?_, fun n hn => ?_⟩⟩⟩,
    fun w => rfl, reportKindOf_eq_some, fun w n hn => getLsbD_segMapOf _ _ hn⟩
  · exact ⟨reportOf_reportWord sense hkind hchannel hgeneration hdetail haddress, queueWordPasses_reportWord sense p,
      reportWord_toNat sense hkind hchannel hgeneration hdetail haddress⟩
  · obtain ⟨hcode, hfields⟩ := orderWord_fields sense hchannel hgeneration hsegment haddress
    refine ⟨queueWordPasses_orderWord sense o, ?_, hfields⟩
    rw [hcode]
    cases o.kind <;> decide
  · exact ⟨mapOf_boxWord sense m, boxWordPasses_boxWord sense m, fun n hn => getLsbD_boxWord sense m hn⟩
  · exact bytePasses_iff_ones sense b
  · simp only [bytePasses, beq_iff_eq] at hpass ⊢
    simp [hpass]
  · simp only [bytePasses, beq_iff_eq, checkBit_xor sense b.data (onesOf_single hn)] at hpass ⊢
    simp [hpass]

/-- Settles O36: each take and write where its conditions hold and where they fail, and what the concentrator is
shown. -/
theorem linkPort : Obligations.LinkPort := by
  unfold Obligations.LinkPort
  refine ⟨fun s hcalm => ?_, fun s hcalm => ⟨fun w => ⟨fun h => ?_, fun h => ?_⟩, fun w => ⟨fun h => ?_, fun h => ?_⟩⟩,
    fun s => ⟨fun hoff => ?_, fun hon => ?_⟩⟩
  · intro taken
    have htake : exec .orderTake s = .next s.takeOrder := exec_event_calm rfl hcalm
    have hloopTake : exec .loopbackTake s = .next s.takeLoopback := exec_event_calm rfl hcalm
    refine ⟨fun h => ?_, fun o rest hconfigured hloop hq => ?_, fun h => ?_,
      fun o rest hconfigured hloop hq hroom => ?_⟩
    · rw [Idles, htake, State.takeOrder_of_not h]
    · rw [htake, State.takeOrder_of_head hconfigured hloop hq]
    · rw [Idles, hloopTake, State.takeLoopback_of_not h]
    · refine ⟨_, hloopTake, ?_⟩
      rw [State.takeLoopback_of_head hconfigured hloop hq hroom]
      refine ⟨⟨_, rfl, queueWordPasses_reportWord _ _, fun hchannel hgeneration haddress => ?_⟩, rfl⟩
      rw [reportOf_reportWord _ (loopbackAnswer_kind_lt o) hchannel hgeneration (Nat.zero_lt_succ 15) haddress]
      exact ⟨rfl, rfl, rfl, rfl, reportKindOf_loopbackAnswer o⟩
  · exact (exec_event_calm (c := .reportWrite w) rfl hcalm).trans (congrArg _ (if_pos h))
  · exact (exec_event_calm (c := .reportWrite w) rfl hcalm).trans (congrArg _ (if_neg h))
  · exact (exec_event_calm (c := .mainsWordWrite w) rfl hcalm).trans (congrArg _ (if_pos h))
  · exact (exec_event_calm (c := .mainsWordWrite w) rfl hcalm).trans (congrArg _ (if_neg h))
  · simp [State.shownOrder, State.shownReportsFull, State.shownHalt, State.shownMainsFull, hoff]
  · refine ⟨fun hq => ?_, fun o rest hq => ?_, ?_, ?_, ?_⟩
    · simp [State.shownOrder, hq]
    · simp [State.shownOrder, hon, hq]
    · rw [State.shownReportsFull, hon]
      exact decide_eq_true_iff
    · simp [State.shownHalt, hon]
    · simp [State.shownMainsFull, hon, Option.isSome_iff_ne_none]

end

section
/-! PROOF. The accept of a transaction and the round trip between an action and its bytes (10.1, 10.5). -/

namespace Sys2Proof

/-! ### Values wider than a byte (10.4) -/

theorem halfOf_eq_ofNat (a b : Byte) : halfOf a b = BitVec.ofNat 16 (a.toNat * 256 + b.toNat) := by
  have ha := a.isLt
  have hb := b.isLt
  refine BitVec.eq_of_toNat_eq ?_
  rw [halfOf, BitVec.toNat_append, Nat.shiftLeft_eq, Nat.mul_comm, ← Nat.two_pow_add_eq_or_of_lt hb,
    BitVec.toNat_ofNat]
  omega

theorem halfOf_toNat (a b : Byte) : (halfOf a b).toNat = a.toNat * 256 + b.toNat := by
  have ha := a.isLt
  have hb := b.isLt
  rw [halfOf_eq_ofNat, BitVec.toNat_ofNat]
  omega

theorem wordOf_eq_ofNat (a b c d : Byte) :
    wordOf a b c d = BitVec.ofNat 32 (((a.toNat * 256 + b.toNat) * 256 + c.toNat) * 256 + d.toNat) := by
  have ha := a.isLt
  have hb := b.isLt
  have hc := c.isLt
  have hd := d.isLt
  have hlow := (halfOf c d).isLt
  refine BitVec.eq_of_toNat_eq ?_
  rw [wordOf, BitVec.toNat_append, Nat.shiftLeft_eq, Nat.mul_comm, ← Nat.two_pow_add_eq_or_of_lt hlow, halfOf_toNat,
    halfOf_toNat, BitVec.toNat_ofNat]
  omega

theorem halfOf_halfBytes (h : Half) : halfOf (h.extractLsb' 8 8) (h.extractLsb' 0 8) = h :=
  BitVec.extractLsb'_append_extractLsb' ..

theorem segMapOf_segMapBytes (m : SegMap) : segMapOf (m.extractLsb' 0 8) (m.extractLsb' 8 8) = m :=
  BitVec.extractLsb'_append_extractLsb' ..

theorem wordOf_wordBytes (w : Word) :
    wordOf (w.extractLsb' 24 8) (w.extractLsb' 16 8) (w.extractLsb' 8 8) (w.extractLsb' 0 8) = w := by
  have hhigh : halfOf (w.extractLsb' 24 8) (w.extractLsb' 16 8) = w.extractLsb' 16 16 :=
    BitVec.extractLsb'_append_extractLsb'_eq_extractLsb' rfl
  have hlow : halfOf (w.extractLsb' 8 8) (w.extractLsb' 0 8) = w.extractLsb' 0 16 :=
    BitVec.extractLsb'_append_extractLsb'_eq_extractLsb' rfl
  rw [wordOf, hhigh, hlow]
  exact BitVec.extractLsb'_append_extractLsb' (w := 16) (len := 16)

/-- The slot bytes carry slot 0 at bit 7 of the first byte. -/
theorem slotsBytes_getLsbD {v : Slots} {n : Nat} {b : Byte} (hn : n < 336) (hb : (slotsBytes v)[n / 8]? = some b) :
    b.getLsbD (7 - n % 8) = Machine.slotOpen v n := by
  have hbyte : n / 8 < 42 := by omega
  have hb' : v.extractLsb' (8 * (41 - n / 8)) 8 = b := by simpa [slotsBytes, hbyte] using hb
  have hplace : 8 * (41 - n / 8) + (7 - n % 8) = 336 - 1 - n := by omega
  rw [← hb', BitVec.getLsbD_extractLsb', hplace, Machine.slotOpen, BitVec.getMsbD]
  simp [hn]
  omega

theorem slotsOf_slotsBytes (v : Slots) : slotsOf (slotsBytes v) = v := by
  have hbytes : slotsBytes (slotsOf (slotsBytes v)) = slotsBytes v := slotsBytes_slotsOf (by simp [slotsBytes])
  refine BitVec.eq_of_getMsbD_eq fun n hn => ?_
  obtain ⟨b, hb⟩ : ∃ b, (slotsBytes v)[n / 8]? = some b :=
    ⟨_, List.getElem?_eq_getElem (by simp [slotsBytes]; omega)⟩
  have hb' : (slotsBytes (slotsOf (slotsBytes v)))[n / 8]? = some b := by rw [hbytes, hb]
  exact (slotsBytes_getLsbD hn hb').symm.trans (slotsBytes_getLsbD hn hb)

/-! ### The command table (10.5) -/

theorem codeClass_eq_action (code : Byte) (n : Nat) :
    codeClass code = .action n
      ↔ (code.toNat, n)
        ∈ [(0x01, 19), (0x02, 20), (0x03, 2), (0x04, 16), (0x05, 1), (0x06, 3), (0x07, 2), (0x08, 1), (0x09, 3),
          (0x0A, 3), (0x0B, 2), (0x0C, 2), (0x0D, 2), (0x0E, 2), (0x10, 4), (0x11, 1), (0x12, 43), (0x13, 11),
          (0x14, 11), (0x18, 3), (0x19, 0), (0x1C, 2), (0x1D, 3), (0x1E, 2), (0x20, 0), (0x21, 5), (0x22, 0),
          (0x23, 0), (0x28, 1), (0x29, 8), (0x2F, 0)] := by
  constructor
  · intro h
    unfold codeClass at h
    split at h <;> cases h <;> rename_i hcode <;> rw [hcode] <;> exact List.mem_of_elem_eq_true rfl
  · intro h
    obtain ⟨⟨k, hk⟩⟩ := code
    change (k, n) ∈ _ at h
    simp only [List.mem_cons, Prod.mk.injEq, List.not_mem_nil, or_false] at h
    rcases h with ⟨rfl, rfl⟩ | ⟨rfl, rfl⟩ | ⟨rfl, rfl⟩ | ⟨rfl, rfl⟩ | ⟨rfl, rfl⟩ | ⟨rfl, rfl⟩ | ⟨rfl, rfl⟩ | ⟨rfl,
      rfl⟩ | ⟨rfl, rfl⟩ | ⟨rfl, rfl⟩ | ⟨rfl, rfl⟩ | ⟨rfl, rfl⟩ | ⟨rfl, rfl⟩ | ⟨rfl, rfl⟩ | ⟨rfl, rfl⟩ | ⟨rfl,
      rfl⟩ | ⟨rfl, rfl⟩ | ⟨rfl, rfl⟩ | ⟨rfl, rfl⟩ | ⟨rfl, rfl⟩ | ⟨rfl, rfl⟩ | ⟨rfl, rfl⟩ | ⟨rfl, rfl⟩ | ⟨rfl,
      rfl⟩ | ⟨rfl, rfl⟩ | ⟨rfl, rfl⟩ | ⟨rfl, rfl⟩ | ⟨rfl, rfl⟩ | ⟨rfl, rfl⟩ | ⟨rfl, rfl⟩ | ⟨rfl, rfl⟩ <;> rfl

theorem codeClass_eq_read (code : Byte) (n : Nat) :
    codeClass code = .read n
      ↔ (code.toNat, n)
        ∈ [(0x80, 0), (0x81, 0), (0x82, 0), (0x84, 2), (0x85, 3), (0x86, 3), (0x87, 2), (0x88, 1), (0x89, 1),
          (0x8A, 1), (0x8B, 1), (0x8C, 0), (0x8D, 0), (0x8E, 0)] := by
  constructor
  · intro h
    unfold codeClass at h
    split at h <;> cases h <;> rename_i hcode <;> rw [hcode] <;> exact List.mem_of_elem_eq_true rfl
  · intro h
    obtain ⟨⟨k, hk⟩⟩ := code
    change (k, n) ∈ _ at h
    simp only [List.mem_cons, Prod.mk.injEq, List.not_mem_nil, or_false] at h
    rcases h with ⟨rfl, rfl⟩ | ⟨rfl, rfl⟩ | ⟨rfl, rfl⟩ | ⟨rfl, rfl⟩ | ⟨rfl, rfl⟩ | ⟨rfl, rfl⟩ | ⟨rfl, rfl⟩ | ⟨rfl,
      rfl⟩ | ⟨rfl, rfl⟩ | ⟨rfl, rfl⟩ | ⟨rfl, rfl⟩ | ⟨rfl, rfl⟩ | ⟨rfl, rfl⟩ | ⟨rfl, rfl⟩ <;> rfl

/-- As many argument bytes as the table gives an action's code always spell an action. -/
theorem exists_decodeAction {code : Byte} {args : List Byte} (h : codeClass code = .action args.length) :
    ∃ i, decodeAction code args = some i := by
  rw [codeClass_eq_action] at h
  obtain ⟨⟨k, hk⟩⟩ := code
  change (k, _) ∈ _ at h
  simp only [List.mem_cons, Prod.mk.injEq, List.not_mem_nil, or_false] at h
  rcases h with ⟨rfl, hlen⟩ | ⟨rfl, hlen⟩ | ⟨rfl, hlen⟩ | ⟨rfl, hlen⟩ | ⟨rfl, hlen⟩ | ⟨rfl, hlen⟩ | ⟨rfl, hlen⟩ |
    ⟨rfl, hlen⟩ | ⟨rfl, hlen⟩ | ⟨rfl, hlen⟩ | ⟨rfl, hlen⟩ | ⟨rfl, hlen⟩ | ⟨rfl, hlen⟩ | ⟨rfl, hlen⟩ | ⟨rfl, hlen⟩ |
    ⟨rfl, hlen⟩ | ⟨rfl, hlen⟩ | ⟨rfl, hlen⟩ | ⟨rfl, hlen⟩ | ⟨rfl, hlen⟩ | ⟨rfl, hlen⟩ | ⟨rfl, hlen⟩ | ⟨rfl, hlen⟩ |
    ⟨rfl, hlen⟩ | ⟨rfl, hlen⟩ | ⟨rfl, hlen⟩ | ⟨rfl, hlen⟩ | ⟨rfl, hlen⟩ | ⟨rfl, hlen⟩ | ⟨rfl, hlen⟩ | ⟨rfl, hlen⟩
  · match args, hlen with
    | [_, _, _, _, _, _, _, _, _, _, _, _, _, _, _, _, _, _, _], _ => exact ⟨_, rfl⟩
  · match args, hlen with
    | [_, _, _, _, _, _, _, _, _, _, _, _, _, _, _, _, _, _, _, _], _ => exact ⟨_, rfl⟩
  · match args, hlen with
    | [_, _], _ => exact ⟨_, rfl⟩
  · match args, hlen with
    | [_, _, _, _, _, _, _, _, _, _, _, _, _, _, _, _], _ => exact ⟨_, rfl⟩
  · match args, hlen with
    | [_], _ => exact ⟨_, rfl⟩
  · match args, hlen with
    | [_, _, _], _ => exact ⟨_, rfl⟩
  · match args, hlen with
    | [_, _], _ => exact ⟨_, rfl⟩
  · match args, hlen with
    | [_], _ => exact ⟨_, rfl⟩
  · match args, hlen with
    | [_, _, _], _ => exact ⟨_, rfl⟩
  · match args, hlen with
    | [_, _, _], _ => exact ⟨_, rfl⟩
  · match args, hlen with
    | [_, _], _ => exact ⟨_, rfl⟩
  · match args, hlen with
    | [_, _], _ => exact ⟨_, rfl⟩
  · match args, hlen with
    | [_, _], _ => exact ⟨_, rfl⟩
  · match args, hlen with
    | [_, _], _ => exact ⟨_, rfl⟩
  · match args, hlen with
    | [_, _, _, _], _ => exact ⟨_, rfl⟩
  · match args, hlen with
    | [_], _ => exact ⟨_, rfl⟩
  · match args, hlen with
    | _ :: _, hlen => exact ⟨_, if_pos (Nat.succ_injective hlen)⟩
  · match args, hlen with
    | [_, _, _, _, _, _, _, _, _, _, _], _ => exact ⟨_, rfl⟩
  · match args, hlen with
    | [_, _, _, _, _, _, _, _, _, _, _], _ => exact ⟨_, rfl⟩
  · match args, hlen with
    | [_, _, _], _ => exact ⟨_, rfl⟩
  · match args, hlen with
    | [], _ => exact ⟨_, rfl⟩
  · match args, hlen with
    | [_, _], _ => exact ⟨_, rfl⟩
  · match args, hlen with
    | [_, _, _], _ => exact ⟨_, rfl⟩
  · match args, hlen with
    | [_, _], _ => exact ⟨_, rfl⟩
  · match args, hlen with
    | [], _ => exact ⟨_, rfl⟩
  · match args, hlen with
    | [_, _, _, _, _], _ => exact ⟨_, rfl⟩
  · match args, hlen with
    | [], _ => exact ⟨_, rfl⟩
  · match args, hlen with
    | [], _ => exact ⟨_, rfl⟩
  · match args, hlen with
    | [_], _ => exact ⟨_, rfl⟩
  · exact ⟨_, if_pos hlen⟩
  · match args, hlen with
    | [], _ => exact ⟨_, rfl⟩

/-! ### The round trip (10.5) -/

theorem exists_of_length_six {α : Type} {l : List α} (h : l.length = 6) :
    ∃ q1 q2 q3 q4 q5 q6, l = [q1, q2, q3, q4, q5, q6] := by
  match l, h with
  | [q1, q2, q3, q4, q5, q6], _ => exact ⟨q1, q2, q3, q4, q5, q6, rfl⟩

/-- The bytes of a well-formed action decode to it again: each field is put together from the bytes it was cut into. -/
theorem decodeAction_of_encodeAction {i : Instr} {code : Byte} {args : List Byte} (ha : i.isAction = true)
    (hw : i.wellFormed = true) (he : encodeAction i = some (code :: args)) : decodeAction code args = some i := by
  cases i with
  | enrol h1 b1 b2 b3 b4 b5 p1 =>
    obtain ⟨q1, q2, q3, q4, q5, q6, rfl⟩ := exists_of_length_six (beq_iff_eq.mp hw)
    cases he
    show some (Instr.enrol (halfOf _ _) b1 b2 b3 b4 b5
      [halfOf _ _, halfOf _ _, halfOf _ _, halfOf _ _, halfOf _ _, halfOf _ _]) = _
    simp only [halfOf_halfBytes]
  | amend h1 b1 b2 b3 b4 b5 b6 p1 =>
    obtain ⟨q1, q2, q3, q4, q5, q6, rfl⟩ := exists_of_length_six (beq_iff_eq.mp hw)
    cases he
    show some (Instr.amend (halfOf _ _) b1 b2 b3 b4 b5 b6
      [halfOf _ _, halfOf _ _, halfOf _ _, halfOf _ _, halfOf _ _, halfOf _ _]) = _
    simp only [halfOf_halfBytes]
  | retire h1 =>
    cases he
    show some (Instr.retire (halfOf _ _)) = _
    rw [halfOf_halfBytes]
  | writeClass b1 h1 h2 h3 h4 b2 b3 b4 h5 h6 =>
    cases he
    show some (Instr.writeClass b1 (halfOf _ _) (halfOf _ _) (halfOf _ _) (halfOf _ _) b2 b3 b4 (halfOf _ _) (halfOf _ _)) = _
    simp only [halfOf_halfBytes]
  | clearClass b1 => cases he; rfl
  | writeZone b1 b2 b3 => cases he; rfl
  | setZoneHold b1 b2 => cases he; rfl
  | clearZone b1 => cases he; rfl
  | writeSegment b1 b2 b3 => cases he; rfl
  | requestTest h1 b1 =>
    cases he
    show some (Instr.requestTest (halfOf _ _) b1) = _
    rw [halfOf_halfBytes]
  | cancelRequest h1 =>
    cases he
    show some (Instr.cancelRequest (halfOf _ _)) = _
    rw [halfOf_halfBytes]
  | acceptRepair h1 =>
    cases he
    show some (Instr.acceptRepair (halfOf _ _)) = _
    rw [halfOf_halfBytes]
  | revive h1 =>
    cases he
    show some (Instr.revive (halfOf _ _)) = _
    rw [halfOf_halfBytes]
  | abortTest h1 =>
    cases he
    show some (Instr.abortTest (halfOf _ _)) = _
    rw [halfOf_halfBytes]
  | setClock w1 =>
    cases he
    show some (Instr.setClock (wordOf _ _ _ _)) = _
    rw [wordOf_wordBytes]
  | trimClock b1 => cases he; rfl
  | writeProfile b1 s1 =>
    cases he
    show (if (slotsBytes s1).length = 42 then some (Instr.writeProfile b1 (slotsOf (slotsBytes s1))) else none) = _
    rw [if_pos (by simp [slotsBytes]), slotsOf_slotsBytes]
  | addException w1 w2 b1 b2 b3 =>
    cases he
    show some (Instr.addException (wordOf _ _ _ _) (wordOf _ _ _ _) b1 b2 b3) = _
    simp only [wordOf_wordBytes]
  | dropException w1 w2 b1 b2 b3 =>
    cases he
    show some (Instr.dropException (wordOf _ _ _ _) (wordOf _ _ _ _) b1 b2 b3) = _
    simp only [wordOf_wordBytes]
  | setSweep b1 b2 b3 => cases he; rfl
  | startSweep => cases he; rfl
  | setTiming h1 =>
    cases he
    show some (Instr.setTiming (halfOf _ _)) = _
    rw [halfOf_halfBytes]
  | configureLink b1 b2 b3 => cases he; rfl
  | haltSegments m1 =>
    cases he
    show some (Instr.haltSegments (segMapOf _ _)) = _
    rw [segMapOf_segMapBytes]
  | start => cases he; rfl
  | suspend b1 w1 =>
    cases he
    show some (Instr.suspend b1 (wordOf _ _ _ _)) = _
    rw [wordOf_wordBytes]
  | resume => cases he; rfl
  | halt => cases he; rfl
  | setTurnaround b1 => cases he; rfl
  | setAttentionLevels l1 => cases he; exact if_pos (beq_iff_eq.mp hw)
  | resetPart => cases he; rfl
  | _ => cases ha


/-- The law of an action's bytes, for every action. -/
theorem actionBytes {i : Instr} (ha : i.isAction = true) : Laws.ActionBytes.Statement i := by
  cases i with
  | enrol a0 a1 a2 a3 a4 a5 a6 => exact Laws.ActionBytes.enrol a0 a1 a2 a3 a4 a5 a6
  | amend a0 a1 a2 a3 a4 a5 a6 a7 => exact Laws.ActionBytes.amend a0 a1 a2 a3 a4 a5 a6 a7
  | retire a0 => exact Laws.ActionBytes.retire a0
  | writeClass a0 a1 a2 a3 a4 a5 a6 a7 a8 a9 => exact Laws.ActionBytes.writeClass a0 a1 a2 a3 a4 a5 a6 a7 a8 a9
  | clearClass a0 => exact Laws.ActionBytes.clearClass a0
  | writeZone a0 a1 a2 => exact Laws.ActionBytes.writeZone a0 a1 a2
  | setZoneHold a0 a1 => exact Laws.ActionBytes.setZoneHold a0 a1
  | clearZone a0 => exact Laws.ActionBytes.clearZone a0
  | writeSegment a0 a1 a2 => exact Laws.ActionBytes.writeSegment a0 a1 a2
  | requestTest a0 a1 => exact Laws.ActionBytes.requestTest a0 a1
  | cancelRequest a0 => exact Laws.ActionBytes.cancelRequest a0
  | acceptRepair a0 => exact Laws.ActionBytes.acceptRepair a0
  | revive a0 => exact Laws.ActionBytes.revive a0
  | abortTest a0 => exact Laws.ActionBytes.abortTest a0
  | setClock a0 => exact Laws.ActionBytes.setClock a0
  | trimClock a0 => exact Laws.ActionBytes.trimClock a0
  | writeProfile a0 a1 => exact Laws.ActionBytes.writeProfile a0 a1
  | addException a0 a1 a2 a3 a4 => exact Laws.ActionBytes.addException a0 a1 a2 a3 a4
  | dropException a0 a1 a2 a3 a4 => exact Laws.ActionBytes.dropException a0 a1 a2 a3 a4
  | setSweep a0 a1 a2 => exact Laws.ActionBytes.setSweep a0 a1 a2
  | startSweep => exact Laws.ActionBytes.startSweep 
  | setTiming a0 => exact Laws.ActionBytes.setTiming a0
  | configureLink a0 a1 a2 => exact Laws.ActionBytes.configureLink a0 a1 a2
  | haltSegments a0 => exact Laws.ActionBytes.haltSegments a0
  | start => exact Laws.ActionBytes.start 
  | suspend a0 a1 => exact Laws.ActionBytes.suspend a0 a1
  | resume => exact Laws.ActionBytes.resume 
  | halt => exact Laws.ActionBytes.halt 
  | setTurnaround a0 => exact Laws.ActionBytes.setTurnaround a0
  | setAttentionLevels a0 => exact Laws.ActionBytes.setAttentionLevels a0
  | resetPart => exact Laws.ActionBytes.resetPart 
  | _ => cases ha

/-- An action that decodes to no RESET PART is another code's. -/
theorem decodeAction_ne_resetPart {code : Byte} {args : List Byte} {i : Instr} (h : decodeAction code args = some i)
    (hcode : code ≠ 0x2F) : i ≠ .resetPart := by
  rintro rfl
  obtain ⟨-, -, he⟩ := decodeAction_sound h
  cases he
  exact hcode rfl

theorem codeClass_of_decodeAction {code : Byte} {args : List Byte} {i : Instr} (h : decodeAction code args = some i) :
    codeClass code = .action args.length := by
  obtain ⟨ha, hw, he⟩ := decodeAction_sound h
  obtain ⟨code', args', he', hclass⟩ := (actionBytes ha).1 ha hw
  obtain ⟨rfl, rfl⟩ : code' = code ∧ args' = args := by simpa using he'.symm.trans he
  exact hclass

end Sys2Proof

namespace Sys2Proof.Machine

/-! ### The accept (R166, R167) -/

section
variable {s : State} {code : Byte} {args : List Byte} {e : TransactionEnd} {n : Nat}

theorem exec_accept (hcalm : s.calm = true) (bytes : List Byte) (he : e ≠ .abandoned) :
    exec (.accept bytes e) s = .next (s.leaveStatus.acceptBytes bytes (decide (e = .whole))) := by
  rw [exec_of_event rfl, settle_of_calm hcalm]
  cases e with
  | abandoned => exact absurd rfl he
  | _ => rfl

theorem exec_accept_abandoned (hcalm : s.calm = true) (bytes : List Byte) :
    exec (.accept bytes .abandoned) s = .next s.leaveStatus :=
  exec_event_calm (c := .accept bytes .abandoned) rfl hcalm

theorem State.acceptBytes_read (h : codeClass code = .read n) (whole : Bool) :
    s.acceptBytes (code :: args) whole = s := by simp only [State.acceptBytes, h]

theorem State.acceptBytes_undefined (h : codeClass code = .undefined) (whole : Bool) :
    s.acceptBytes (code :: args) whole = s.acceptAs none := by simp only [State.acceptBytes, h]

theorem State.acceptBytes_action (h : codeClass code = .action n) (whole : Bool) :
    s.acceptBytes (code :: args) whole
      = s.acceptAs (if args.length = n ∧ whole = true then decodeAction code args else none) := by
  simp only [State.acceptBytes, h]

/-- While BUSY everything that is accepted but a RESET PART is dropped. -/
theorem State.acceptAs_busy {action : Option Instr} (h : action ≠ some .resetPart) (hb : s.busy = true) :
    s.acceptAs action = s.drop := by
  unfold State.acceptAs
  split
  · exact absurd rfl h
  · exact if_pos hb
  · exact if_pos hb

theorem State.acceptAs_none (hb : s.busy = false) : s.acceptAs none = s.malformed :=
  if_neg (by rw [hb]; decide)

theorem State.acceptAs_some {i : Instr} (h : i ≠ .resetPart) (hb : s.busy = false) :
    s.acceptAs (some i) = { s with port := { s.port with inHand := some i } } := by
  unfold State.acceptAs
  split
  next heq => exact absurd (Option.some.inj heq) h
  next c _ heq =>
    cases heq
    exact if_neg (by rw [hb]; decide)
  next heq => cases heq

/-- The accept of an action's bytes, whole and of the right length, while not BUSY. -/
theorem exec_accept_action (hcalm : s.calm = true) (hb : s.busy = false) {i : Instr}
    (hdecode : decodeAction code args = some i) (hi : i ≠ .resetPart) :
    exec (.accept (code :: args) .whole) s
      = .next { s with port := { s.port with inHand := some i, statusRead := false } } := by
  have hidle : s.leaveStatus.busy = false := hb
  rw [exec_accept hcalm _ (by decide), State.acceptBytes_action (codeClass_of_decodeAction hdecode),
    if_pos ⟨rfl, rfl⟩, hdecode, State.acceptAs_some hi hidle]
  rfl

end

end Sys2Proof.Machine

open Sys2Proof Sys2Proof.Machine

/-- Settles O45: the accept by the code's class, what is dropped while BUSY, and the command table by its codes. -/
theorem accept : Obligations.Accept := by
  refine ⟨fun s e hcalm => ?_, codeClass_eq_action, codeClass_eq_read⟩
  intro left dropped malformed
  have hbusy : ∀ {b : Bool}, s.busy = b → s.leaveStatus.busy = b := fun h => h
  have hleft : ∀ bytes, s.leaveStatus.acceptBytes bytes (decide (e = .whole)) = s.leaveStatus →
      exec (.accept bytes e) s = .next left := fun bytes h => by
    by_cases he : e = .abandoned
    · subst he
      exact exec_accept_abandoned hcalm bytes
    · rw [exec_accept hcalm bytes he, h]; rfl
  refine ⟨hleft [] rfl, fun code args => ⟨?_, fun n hread => hleft _ (State.acceptBytes_read hread _),
    fun he hundefined => ?_, fun n he haction hcode => ?_⟩⟩
  · rintro rfl
    exact exec_accept_abandoned hcalm _
  · rw [exec_accept hcalm _ he, State.acceptBytes_undefined hundefined]
    cases hb : s.busy with
    | true => rw [State.acceptAs_busy (action := none) (fun h => by cases h) (hbusy hb)]; rfl
    | false => rw [State.acceptAs_none (hbusy hb)]; rfl
  · refine ⟨fun hb => ?_, fun hb hwrong => ?_, fun hb hlen hwhole => ?_⟩
    · have hnot : (if args.length = n ∧ decide (e = .whole) = true then decodeAction code args else none)
          ≠ some .resetPart := fun h => by
        split at h
        · exact decodeAction_ne_resetPart h hcode rfl
        · cases h
      rw [exec_accept hcalm _ he, State.acceptBytes_action haction, State.acceptAs_busy hnot (hbusy hb)]
      rfl
    · have hnot : ¬(args.length = n ∧ decide (e = .whole) = true) := by
        rintro ⟨hlen, hwhole⟩
        rcases hwrong with h | h
        · exact h hlen
        · rw [h] at hwhole
          exact absurd hwhole (by decide)
      rw [exec_accept hcalm _ he, State.acceptBytes_action haction, if_neg hnot, State.acceptAs_none (hbusy hb)]
      rfl
    · subst hlen hwhole
      obtain ⟨a, hdecode⟩ := exists_decodeAction haction
      exact ⟨a, hdecode, exec_accept_action hcalm hb hdecode (decodeAction_ne_resetPart hdecode hcode)⟩

/-- Settles O46: what decodes is sound, what a well-formed action's bytes are decodes to it, and each code's layout by
its own equation of the decoder. -/
theorem actionRoundTrip : Obligations.ActionRoundTrip := by
  refine ⟨fun i ha hw => ?_, fun code args i h => decodeAction_sound h, ?_⟩
  · obtain ⟨code, args, he, hclass⟩ := (actionBytes ha).1 ha hw
    have hdecode := decodeAction_of_encodeAction ha hw he
    exact ⟨code, args, he, hclass, hdecode, fun s hcalm hb hi =>
      ⟨_, exec_accept_action hcalm hb hdecode hi, rfl, hcalm, by simp [State.admits]⟩⟩
  · intro half word
    have hhalf : ∀ a b, half a b = halfOf a b := fun a b => (halfOf_eq_ofNat a b).symm
    have hword : ∀ a b c d, word a b c d = wordOf a b c d := fun a b c d => (wordOf_eq_ofNat a b c d).symm
    clear_value half word
    obtain rfl : half = halfOf := funext fun a => funext fun b => hhalf a b
    obtain rfl : word = wordOf := funext fun a => funext fun b => funext fun c => funext fun d => hword a b c d
    refine ⟨fun a b c d e f g h i j k l m n o p q r t => ⟨rfl, fun x => rfl⟩,
      fun a b c d e f g h i j k l m n o p => rfl, fun a b c d e f g h i j k => ⟨rfl, rfl⟩, fun a b c d e => ?_,
      fun p l hl => ⟨slotsOf l, if_pos hl, fun n b hn hb => ?_⟩,
      fun a b => ⟨segMapOf a b, rfl, fun n hn => getLsbD_segMapOf a b hn⟩, fun l hl => if_pos hl⟩
    · exact ⟨rfl, rfl, rfl, rfl, rfl, rfl, rfl, rfl, rfl, rfl, rfl, rfl, rfl, rfl, rfl, rfl, rfl, rfl, rfl, rfl, rfl,
        rfl, rfl⟩
    · rw [← slotsBytes_slotsOf hl] at hb
      exact (slotsBytes_getLsbD hn hb).symm

end

section
/-! PROOF. The reads of fixed layout (10.4): the status bytes, the tables, the lists and the record image. -/

namespace Sys2Proof.Machine

/-! ### The numbers a layout's bytes spell -/

theorem bytesValue_byte {n : Nat} (h : n < 256) : bytesValue [byte n] = n := by
  simp [bytesValue, byte_toNat, Nat.mod_eq_of_lt h]

theorem bytesValue_be2_of_le {n : Nat} (h : n ≤ 65535) : bytesValue (be2 n) = n := by
  rw [bytesValue_be2, Nat.mod_eq_of_lt (by omega)]

theorem bytesValue_be4_of_le {n : Nat} (h : n ≤ 4294967295) : bytesValue (be4 n) = n := by
  rw [bytesValue_be4, Nat.mod_eq_of_lt (by omega)]

theorem bytesValue_flagByte (b : Bool) : bytesValue [flagByte b] = if b = true then 1 else 0 := by cases b <;> rfl

theorem bitAt_eq (n : Nat) (b : Bool) : bitAt n b = b.toNat * 2 ^ n := by cases b <;> simp [bitAt]

theorem getLsbD_iff_digit (b : Byte) (n : Nat) : b.getLsbD n = true ↔ b.toNat / 2 ^ n % 2 = 1 := by
  rw [BitVec.getLsbD, Nat.testBit_eq_decide_div_mod_eq, decide_eq_true_iff]

/-- A field within entry `n` of a list of entries of `k` bytes each, behind a head of `p` bytes. -/
theorem take_drop_flatMap {α : Type} {f : α → List Byte} {k : Nat} (hk : ∀ x, (f x).length = k) {head : List Byte}
    {l : List α} {n : Nat} {e : α} (he : l[n]? = some e) {place at_ size : Nat} (hplace : place = head.length + k * n + at_)
    (hfit : at_ + size ≤ k) :
    ((head ++ l.flatMap f).drop place).take size = ((f e).drop at_).take size := by
  have hentry : ∀ (l : List α) (n : Nat), l[n]? = some e →
      (l.flatMap f).drop (k * n) = f e ++ (l.drop (n + 1)).flatMap f := fun l => by
    induction l with
    | nil => intro n h; simp at h
    | cons x l ih =>
      intro n h
      cases n with
      | zero =>
        obtain rfl : x = e := by simpa using h
        simp
      | succ n =>
        have hskip : k * (n + 1) = (f x).length + k * n := by rw [hk, Nat.mul_succ, Nat.add_comm]
        rw [List.flatMap_cons, hskip, ← List.drop_drop, List.drop_left, ih n (by simpa using h)]
        rfl
  have hfe := hk e
  rw [hplace, Nat.add_assoc, ← List.drop_drop, List.drop_left, ← List.drop_drop, hentry l n he,
    List.drop_append_of_le_length (by omega), List.take_append_of_le_length (by simp; omega)]

theorem length_flatMap_of_forall {α β : Type} {f : α → List β} {k : Nat} (hk : ∀ x, (f x).length = k) (l : List α) :
    (l.flatMap f).length = k * l.length := by
  induction l with
  | nil => rfl
  | cons x l ih => rw [List.flatMap_cons, List.length_append, hk, ih, List.length_cons, Nat.mul_succ, Nat.add_comm]

/-- A read of fixed length returns its data, whatever READ STATUS went before. -/
theorem returns_of_readWhole {c : Instr} {data : State → List Byte} {s : State} {bytes : List Byte}
    (hc : exec c s = readWhole data s) (hcalm : s.calm = true) (hb : s.busy = false)
    (hdata : data s.leaveStatus = bytes) : Returns c s bytes := by
  rw [Returns, hc, readWhole_calm hcalm hb, hdata]
  rfl

theorem returns_nil_of_busy {c : Instr} {data : State → State} {s : State} (hc : exec c s = readTake data s)
    (hcalm : s.calm = true) (hb : s.busy = true) : Returns c s [] := by
  rw [Returns, hc, readTake_busy hcalm hb]
  rfl

theorem getD_le_of_minuteInRange {m : Option Nat} (h : MinuteInRange m) : m.getD 0 ≤ 4294967295 := by
  cases m with
  | none => exact Nat.zero_le _
  | some n => exact h n rfl

/-! ### Tables (R16, R175) -/

section
variable {s : State} {g a c i : Nat}

theorem State.findData_of_none (h : 15 < g ∨ s.locate g a = none) : s.findData g a = be2 65535 := by
  unfold State.findData
  split
  next hlt =>
    have hnone : s.locate g a = none := h.resolve_left (Nat.not_lt.mpr (Nat.le_of_lt_succ hlt))
    rw [hnone]; rfl
  · rfl

theorem State.findData_of_some (hg : g ≤ 15) (h : s.locate g a = some i) : s.findData g a = be2 i := by
  have hlt : g < Config.segmentCount := Nat.lt_succ_of_le hg
  rw [State.findData, if_pos hlt, h]; rfl

theorem State.classData_of_absent (h : 15 < c ∨ (s.classAt c).figures = none) :
    s.classData c = List.replicate 16 0 := by
  unfold State.classData
  split
  next hlt =>
    have hnone : (s.classAt c).figures = none := h.resolve_left (Nat.not_lt.mpr (Nat.le_of_lt_succ hlt))
    rw [ClassEntry.read, hnone]; rfl
  · rfl

theorem State.classData_of_some {f : Figures} (hc : c ≤ 15) (h : (s.classAt c).figures = some f) :
    s.classData c = flagByte true :: figureBytes f := by
  have hlt : c < Config.classCount := Nat.lt_succ_of_le hc
  rw [State.classData, if_pos hlt, ClassEntry.read, h]; rfl

end

/-! ### Lists (R41, R99, R109) -/

section
variable {s : State} {n place at_ size : Nat}

theorem exceptionData_field {e : CalendarException} (he : s.exceptions[n]? = some e)
    (hplace : place = 1 + 11 * n + at_) (hfit : at_ + size ≤ 11) :
    (s.exceptionData.drop place).take size = ((exceptionBytes e).drop at_).take size :=
  take_drop_flatMap (f := exceptionBytes) (k := 11) (head := [byte s.exceptions.length]) (fun _ => rfl) he hplace hfit

theorem exceptionData_length (s : State) : s.exceptionData.length = 1 + 11 * s.exceptions.length := by
  rw [State.exceptionData, List.length_cons, length_flatMap_of_forall (k := 11) fun _ => rfl, Nat.add_comm]

theorem channelData_field {k : Nat} (hk : k < 32) (hplace : place = 14 * k + at_) (hfit : at_ + size ≤ 14) :
    (s.channelData.drop place).take size = ((channelBytes (s.channelAt k)).drop at_).take size := by
  have hget : allChannels[k]? = some k := List.getElem?_range hk
  exact take_drop_flatMap (f := fun k => channelBytes (s.channelAt k)) (head := []) (fun _ => rfl) hget
    (by simpa using hplace) hfit

theorem channelData_length (s : State) : s.channelData.length = 448 := by
  rw [State.channelData, length_flatMap_of_forall (k := 14) fun _ => rfl]
  rfl

theorem candidateData_field {e : PublishedEntry} (he : s.planner.published[n]? = some e)
    (hplace : place = 7 + 9 * n + at_) (hfit : at_ + size ≤ 9) :
    (s.candidateData.drop place).take size = ((publishedBytes e).drop at_).take size :=
  take_drop_flatMap (f := publishedBytes) (k := 9) (fun _ => rfl) he hplace hfit

theorem candidateData_length (s : State) : s.candidateData.length = 7 + 9 * s.planner.published.length := by
  rw [State.candidateData, List.length_append, length_flatMap_of_forall (k := 9) fun _ => rfl]
  rfl

end

theorem ExceptionScope.index_lt {e : ExceptionScope} (h : e.inRange = true) : e.index < 256 := by
  cases e with
  | campus => decide
  | profile p =>
    have hp : p ≤ 31 := of_decide_eq_true h
    exact hp.trans_lt (by decide)
  | zone z => exact Nat.lt_succ_of_le (of_decide_eq_true h)

theorem ExceptionScope.code_lt (e : ExceptionScope) : e.code < 256 := by
  cases e <;> simp [ExceptionScope.code]

theorem SweepScope.code_lt (c : SweepScope) : c.code < 256 := by cases c <;> simp [SweepScope.code]

theorem SweepScope.zoneIndex_lt {c : SweepScope} (h : c.inRange = true) : c.zoneIndex < 256 := by
  cases c with
  | all => decide
  | zone z => exact Nat.lt_succ_of_le (of_decide_eq_true h)

/-! ### The record image (R84) -/

/-- The flags of an image's byte 7, one by one. -/
theorem imageFlags_digits (r : Record) :
    let n := bytesValue [imageFlags r]
    (n / 2 ^ 7 % 2 = 1 ↔ r.lastFunction ≠ none) ∧ (n / 2 ^ 6 % 2 = 1 ↔ r.lastDuration ≠ none)
      ∧ (n / 2 ^ 5 % 2 = 1 ↔ r.hold ≠ none) ∧ (n / 2 ^ 4 % 2 = 1 ↔ r.lastOutcome ≠ none)
      ∧ (n / 2 ^ 3 % 2 = 1 ↔ r.shortInterval = true) ∧ (n / 2 ^ 2 % 2 = 1 ↔ r.retirePending = true)
      ∧ (n / 2 ^ 1 % 2 = 1 ↔ ∃ o, r.lastOutcome = some o ∧ o.rehearsal = true) ∧ ¬n / 2 ^ 0 % 2 = 1 := by
  obtain ⟨b, hflags, hb⟩ : ∃ b : Bool, imageFlags r
        = byte (bitAt 7 r.lastFunction.isSome + bitAt 6 r.lastDuration.isSome + bitAt 5 r.hold.isSome
          + bitAt 4 r.lastOutcome.isSome + bitAt 3 r.shortInterval + bitAt 2 r.retirePending + bitAt 1 b)
      ∧ (b = true ↔ ∃ o, r.lastOutcome = some o ∧ o.rehearsal = true) := by
    refine ⟨_, rfl, ?_⟩
    cases r.lastOutcome <;> simp
  have hvalue : bytesValue [imageFlags r] = (imageFlags r).toNat := by simp [bytesValue]
  rw [congrArg BitVec.toNat hflags, byte_toNat] at hvalue
  simp only [bitAt_eq] at hvalue
  have h7 := r.lastFunction.isSome.toNat_le
  have h6 := r.lastDuration.isSome.toNat_le
  have h5 := r.hold.isSome.toNat_le
  have h4 := r.lastOutcome.isSome.toNat_le
  have h3 := r.shortInterval.toNat_le
  have h2 := r.retirePending.toNat_le
  have h1 := b.toNat_le
  simp only [← Option.isSome_iff_ne_none, ← hb]
  simp only [← Bool.toNat_eq_one, hvalue]
  refine ⟨?_, ?_, ?_, ?_, ?_, ?_, ?_, ?_⟩ <;> omega

theorem imageOutcome_length (o : Option LastOutcome) : (imageOutcome o).length = 10 := by cases o <;> rfl

theorem recordImage_length (i : Nat) (r : Record) : (recordImage i r).length = 48 := by
  simp only [recordImage, List.length_append, imageOutcome_length]
  rfl

/-- The last ten bytes are the last outcome's. -/
theorem recordImage_outcome (i : Nat) (r : Record) {place at_ : Nat} (h : place = 38 + at_) :
    (recordImage i r).drop place = (imageOutcome r.lastOutcome).drop at_ := by
  rw [h, ← List.drop_drop]
  rfl

/-- A neighbour place of the image. -/
theorem recordImage_place (i : Nat) (r : Record) {n : Nat} (hn : n < 6) :
    ((recordImage i r).drop (10 + 2 * n)).take 2 = be2 ((r.neighbours[n]?).getD 65535) := by
  rw [← List.getD_eq_getElem?_getD]
  interval_cases n <;> rfl

/-! ### The status bytes -/

/-- The first status byte's bits, one by one. -/
theorem statusByte_digits (a7 a6 a5 a4 a1 : Bool) {p : Nat} (hp : p < 4) :
    let n := (byte (bitAt 7 a7 + bitAt 6 a6 + bitAt 5 a5 + bitAt 4 a4 + p * 4 + bitAt 1 a1)).toNat
    n / 2 ^ 7 % 2 = a7.toNat ∧ n / 2 ^ 6 % 2 = a6.toNat ∧ n / 2 ^ 5 % 2 = a5.toNat ∧ n / 2 ^ 4 % 2 = a4.toNat
      ∧ n / 4 % 4 = p ∧ n / 2 ^ 1 % 2 = a1.toNat ∧ n / 2 ^ 0 % 2 = 0 := by
  have h7 := a7.toNat_le
  have h6 := a6.toNat_le
  have h5 := a5.toNat_le
  have h4 := a4.toNat_le
  have h1 := a1.toNat_le
  simp only [byte_toNat, bitAt_eq]
  refine ⟨?_, ?_, ?_, ?_, ?_, ?_, ?_⟩ <;> omega

theorem PassPhase.inProgress_iff (p : PassPhase) : p.inProgress = true ↔ p = .visiting ∨ p = .dispatching := by
  cases p <;> decide

end Sys2Proof.Machine

open Sys2Proof Sys2Proof.Machine

/-- Settles O47: the bits of the first byte from its digits, the other bytes by their values. -/
theorem statusReads : Obligations.StatusReads := by
  intro s hcalm hreports
  obtain ⟨d7, d6, d5, d4, dp, d1, d0⟩ := statusByte_digits s.busy s.port.dropped s.attentionPending s.clock.isSet
    s.planner.phase.inProgress (p := s.programme.state.code) (by cases s.programme.state <;> decide)
  refine ⟨_, _, _, _, exec_event_calm (c := .readStatus) rfl hcalm, fun hread => ?_, fun hread => ?_, ?_⟩
  · exact (exec_event_calm (c := .statusRepetition) rfl hcalm).trans (congrArg _ (if_pos hread))
  · exact (exec_event_calm (c := .statusRepetition) rfl hcalm).trans (congrArg _ (if_neg (by rw [hread]; decide)))
  · refine ⟨?_, ?_, ?_, ?_, ?_, ?_, ?_, ?_, ?_, ?_⟩
    · rw [getLsbD_iff_digit, d7, ← Bool.toNat_eq_one]
    · rw [getLsbD_iff_digit, d6, ← Bool.toNat_eq_one]
    · rw [← State.attentionPending_iff, getLsbD_iff_digit, d5, ← Bool.toNat_eq_one]
    · rw [getLsbD_iff_digit, d4, ← Bool.toNat_eq_one]
    · rw [dp]
      cases s.programme.state <;> decide
    · rw [← PassPhase.inProgress_iff, getLsbD_iff_digit, d1, ← Bool.toNat_eq_one]
    · rw [← Bool.not_eq_true, getLsbD_iff_digit, d0]
      decide
    · cases s.port.lastResult <;> decide
    · rw [byte_toNat, Nat.mod_eq_of_lt (by omega)]
    · have := s.boundCount_le
      rw [byte_toNat, Nat.mod_eq_of_lt (by omega)]

/-- Settles O49: what BUSY refuses by the serving of a read, and each table's read by the places of its layout. -/
theorem tableReads : Obligations.TableReads := by
  refine ⟨fun s a b h hcalm hb => ?_, fun s hcalm hb w => ?_⟩
  · exact ⟨returns_nil_of_busy rfl hcalm hb, returns_nil_of_busy rfl hcalm hb, returns_nil_of_busy rfl hcalm hb,
      returns_nil_of_busy rfl hcalm hb, returns_nil_of_busy rfl hcalm hb, returns_nil_of_busy rfl hcalm hb,
      returns_nil_of_busy rfl hcalm hb, returns_nil_of_busy rfl hcalm hb, returns_nil_of_busy rfl hcalm hb,
      returns_nil_of_busy rfl hcalm hb, returns_nil_of_busy rfl hcalm hb, returns_nil_of_busy rfl hcalm hb⟩
  intro field flag
  refine ⟨fun hunset => ?_, fun hset => ?_, fun g a => ?_, fun k => ⟨fun habsent => ?_, fun f hk hf => ?_⟩, fun z => ?_,
    fun g => ⟨fun hg => ?_, fun hg => ?_⟩⟩
  · refine returns_of_readWhole rfl hcalm hb ((if_neg ?_).trans rfl)
    show ¬s.clock.isSet = true
    rw [hunset]
    decide
  · exact ⟨_, returns_of_readWhole rfl hcalm hb (if_pos hset), rfl, bytesValue_be4_of_le w.clock.1, rfl,
      bytesValue_byte (w.clock.2.trans_lt (by decide))⟩
  · refine ⟨_, returns_of_readWhole rfl hcalm hb rfl, rfl, fun hnone => ?_, fun i hg hi hlt => ?_⟩
    · exact (congrArg bytesValue (State.findData_of_none hnone)).trans (bytesValue_be2_of_le le_rfl)
    · exact (congrArg bytesValue (State.findData_of_some hg hi)).trans (bytesValue_be2_of_le (by omega))
  · exact returns_of_readWhole rfl hcalm hb (State.classData_of_absent habsent)
  · obtain ⟨⟨-, hfunction⟩, ⟨-, hrated⟩, ⟨-, hinterval⟩, ⟨-, hduration⟩, hearly, hgrace, ⟨-, hfactor⟩, hmin, ⟨-, hmax⟩, -⟩ :=
      (w.classes k.toNat).2 f hf
    exact ⟨_, returns_of_readWhole rfl hcalm hb (State.classData_of_some hk hf), rfl, rfl,
      bytesValue_be2_of_le (by omega), bytesValue_be2_of_le (by omega), bytesValue_be2_of_le (by omega),
      bytesValue_be2_of_le (by omega), bytesValue_byte (by omega), bytesValue_byte (by omega),
      bytesValue_byte (by omega), bytesValue_be2_of_le (by omega), bytesValue_be2_of_le (by omega)⟩
  · obtain ⟨hprofile, -, hpercent, hpopulation, huncovered⟩ := w.zones z.toNat
    exact ⟨_, returns_of_readWhole rfl hcalm hb rfl, rfl, bytesValue_flagByte _,
      bytesValue_byte (hprofile.trans_lt (by decide)), bytesValue_byte (hpercent.trans_lt (by decide)),
      bytesValue_flagByte _, bytesValue_be2_of_le (hpopulation.trans (by decide)),
      bytesValue_be2_of_le ((huncovered.trans hpopulation).trans (by decide))⟩
  · exact returns_of_readWhole rfl hcalm hb (if_neg (Nat.not_lt.mpr hg))
  · obtain ⟨-, hcap, hactive, houtage⟩ := w.segments g.toNat
    refine ⟨_, returns_of_readWhole rfl hcalm hb (if_pos (Nat.lt_succ_of_le hg)), rfl, bytesValue_flagByte _,
      bytesValue_byte (hcap.trans_lt (by decide)), bytesValue_byte (hactive.trans_lt (by decide)), ?_,
      bytesValue_flagByte _, bytesValue_be4_of_le (getD_le_of_minuteInRange houtage), bytesValue_flagByte _⟩
    show ((s.segmentAt g.toNat).mains, bytesValue [byte (s.segmentAt g.toNat).mains.code]) ∈ _
    cases (s.segmentAt g.toNat).mains <;> decide

/-- Settles O50: each list's entries stand one after another, and a field of an entry lies at its place in the entry. -/
theorem listReads : Obligations.ListReads := by
  intro s hcalm hb w field flag kinds
  refine ⟨fun p => ⟨fun hp => ?_, fun hp => ?_⟩, fun hlen => ?_, ?_, fun hlen => ?_⟩
  · refine returns_of_readWhole rfl hcalm hb ((congrArg slotsBytes (if_neg (Nat.not_lt.mpr hp))).trans ?_)
    simp [slotsBytes]
  · refine ⟨_, returns_of_readWhole rfl hcalm hb (congrArg slotsBytes (if_pos (Nat.lt_succ_of_le hp))),
      by simp [slotsBytes], fun n b hn hbyte => slotsBytes_getLsbD hn hbyte⟩
  · refine ⟨s.exceptionData, returns_of_readWhole rfl hcalm hb rfl, exceptionData_length s, bytesValue_byte (by omega),
      fun n e he => ?_⟩
    obtain ⟨hstart, hstop, hscope⟩ := w.exceptions e (List.mem_of_getElem? he)
    have hfield : ∀ {place at_ size}, place = 1 + 11 * n + at_ → at_ + size ≤ 11 →
        field s.exceptionData place size = bytesValue (((exceptionBytes e).drop at_).take size) :=
      fun hplace hfit => congrArg bytesValue (exceptionData_field he hplace hfit)
    have hcode : field s.exceptionData (9 + 11 * n) 1 = e.scope.code :=
      (hfield (at_ := 8) (by omega) (by decide)).trans (bytesValue_byte e.scope.code_lt)
    have hindex : field s.exceptionData (10 + 11 * n) 1 = e.scope.index :=
      (hfield (at_ := 9) (by omega) (by decide)).trans (bytesValue_byte (ExceptionScope.index_lt hscope))
    refine ⟨(hfield (at_ := 0) (by omega) (by decide)).trans (bytesValue_be4_of_le hstart),
      (hfield (at_ := 4) (by omega) (by decide)).trans (bytesValue_be4_of_le hstop), ?_, ?_, ?_,
      (hfield (at_ := 10) (by omega) (by decide)).trans (bytesValue_flagByte _)⟩
    · exact fun h => ⟨hcode.trans (by rw [h]; rfl), hindex.trans (by rw [h]; rfl)⟩
    · exact fun p h => ⟨hcode.trans (by rw [h]; rfl), hindex.trans (by rw [h]; rfl)⟩
    · exact fun z h => ⟨hcode.trans (by rw [h]; rfl), hindex.trans (by rw [h]; rfl)⟩
  · refine ⟨s.channelData, returns_of_readWhole rfl hcalm hb rfl, channelData_length s, fun k hk => ?_⟩
    intro c
    have hrange : c.InRange := w.channels k
    obtain ⟨hi, hgeneration, hrun, helapsed, htarget⟩ := hrange
    have hfield : ∀ {place at_ size}, place = 14 * k + at_ → at_ + size ≤ 14 →
        field s.channelData place size = bytesValue (((channelBytes c).drop at_).take size) :=
      fun hplace hfit => congrArg bytesValue (channelData_field hk hplace hfit)
    have hstate : field s.channelData (14 * k) 1 = c.state.code :=
      (hfield (at_ := 0) rfl (by decide)).trans (bytesValue_byte (by cases c.state <;> decide))
    have hkind : field s.channelData (14 * k + 3) 1 = c.kind.code :=
      (hfield rfl (by decide)).trans (bytesValue_byte (by cases c.kind <;> decide))
    have hrole : field s.channelData (14 * k + 10) 1 = c.role.code :=
      (hfield rfl (by decide)).trans (bytesValue_byte (by cases c.role <;> decide))
    have hpath : field s.channelData (14 * k + 13) 1 = c.path.code :=
      (hfield rfl (by decide)).trans (bytesValue_byte (by cases c.path <;> decide))
    rw [hstate, hkind, hrole, hpath]
    refine ⟨by cases c.state <;> decide, (hfield rfl (by decide)).trans (bytesValue_be2_of_le (by omega)),
      by cases c.kind <;> decide, (hfield rfl (by decide)).trans (bytesValue_byte (by omega)),
      (hfield rfl (by decide)).trans (bytesValue_flagByte _), (hfield rfl (by decide)).trans (bytesValue_be2_of_le (by omega)),
      (hfield rfl (by decide)).trans (bytesValue_be2_of_le (by omega)), by cases c.role <;> decide,
      (hfield rfl (by decide)).trans (bytesValue_be2_of_le (by omega)), by cases c.path <;> decide⟩
  · obtain ⟨-, hoverdue, -, hentries, hscope, -⟩ := w.planner
    have hmode : field s.candidateData 0 1 = s.planner.mode.code :=
      bytesValue_byte (by cases s.planner.mode <;> decide)
    have hphase : field s.candidateData 3 1 = s.planner.phase.code :=
      bytesValue_byte (by cases s.planner.phase <;> decide)
    have hcode : field s.candidateData 1 1 = s.planner.scope.code :=
      bytesValue_byte s.planner.scope.code_lt
    have hzone : field s.candidateData 2 1 = s.planner.scope.zoneIndex :=
      bytesValue_byte (SweepScope.zoneIndex_lt hscope)
    refine ⟨s.candidateData, returns_of_readWhole rfl hcalm hb rfl, candidateData_length s, ?_, ?_, fun h => ?_,
      fun z h => ?_, bytesValue_be2_of_le (hoverdue.trans (by decide)), bytesValue_byte (by omega), fun n e he => ?_⟩
    · rw [hmode]; cases s.planner.mode <;> decide
    · rw [hphase]; cases s.planner.phase <;> decide
    · exact ⟨hcode.trans (by rw [h]; rfl), hzone.trans (by rw [h]; rfl)⟩
    · exact ⟨hcode.trans (by rw [h]; rfl), hzone.trans (by rw [h]; rfl)⟩
    · obtain ⟨hi, hdeadline⟩ := hentries e (List.mem_of_getElem? he)
      have hfield : ∀ {place at_ size}, place = 7 + 9 * n + at_ → at_ + size ≤ 9 →
          field s.candidateData place size = bytesValue (((publishedBytes e).drop at_).take size) :=
        fun hplace hfit => congrArg bytesValue (candidateData_field he hplace hfit)
      have hkind : field s.candidateData (9 + 9 * n) 1 = e.entry.kind.code :=
        (hfield (at_ := 2) (by omega) (by decide)).trans (bytesValue_byte (by cases e.entry.kind <;> decide))
      have houtcome : field s.candidateData (15 + 9 * n) 1 = e.outcome.code :=
        (hfield (at_ := 8) (by omega) (by decide)).trans (bytesValue_byte (by cases e.outcome <;> decide))
      rw [hkind, houtcome]
      exact ⟨(hfield (at_ := 0) rfl (by decide)).trans (bytesValue_be2_of_le (by omega)),
        by cases e.entry.kind <;> decide, (hfield (at_ := 3) (by omega) (by decide)).trans (bytesValue_flagByte _),
        (hfield (at_ := 4) (by omega) (by decide)).trans (bytesValue_be4_of_le hdeadline),
        by cases e.outcome <;> decide⟩

/-- Settles O51: each field of the image lies at its offset. -/
theorem recordImage : Obligations.RecordImage := by
  intro s i r hr hnames hneighbours w l field flagged
  obtain ⟨hi, hsegment, haddress, hzone, hclass, -⟩ := hnames i r hr
  obtain ⟨-, hcount, -, hjoined⟩ := hneighbours i r hr
  obtain ⟨hnoAnswer, henrol, hfunction, hduration, hhold, houtcome⟩ := w.records i r hr
  obtain ⟨d7, d6, d5, d4, d3, d2, d1, d0⟩ := imageFlags_digits r
  have hstate : field 2 1 = r.state.code := bytesValue_byte (by cases r.state <;> decide)
  have hcode : requestedCode r.requested ≤ 2 := by
    cases h : r.requested with
    | none => decide
    | some k => cases k <;> decide
  have hrequest : field 8 1 = requestedCode r.requested * 16 + r.noAnswer := bytesValue_byte (by omega)
  have htail : ∀ {place at_ size}, place = 38 + at_ →
      field place size = bytesValue (((imageOutcome r.lastOutcome).drop at_).take size) :=
    fun {_ _ size} h => congrArg (fun t => bytesValue (t.take size)) (recordImage_outcome i r h)
  refine ⟨recordImage_length i r, bytesValue_be2_of_le (by omega), ?_, bytesValue_byte (hsegment.trans (by decide)),
    bytesValue_byte haddress, bytesValue_byte hzone, bytesValue_byte (by omega), d7, d6, d5, d4, d3, d2, d1, d0, ?_, ?_,
    bytesValue_byte (by omega), fun n hn => ?_, bytesValue_be4_of_le henrol,
    bytesValue_be4_of_le (getD_le_of_minuteInRange hfunction), bytesValue_be4_of_le (getD_le_of_minuteInRange hduration),
    bytesValue_be4_of_le (getD_le_of_minuteInRange hhold), fun hnone => ?_, fun o ho => ?_⟩
  · rw [hstate]; cases r.state <;> decide
  · have hdigit : field 8 1 / 16 = requestedCode r.requested := by omega
    rw [hdigit]
    cases h : r.requested with
    | none => decide
    | some k => cases k <;> decide
  · omega
  · refine (congrArg bytesValue (recordImage_place i r hn)).trans (bytesValue_be2_of_le ?_)
    cases hget : r.neighbours[n]? with
    | none => exact le_rfl
    | some m =>
      obtain ⟨q, hq, -⟩ := hjoined m (List.mem_of_getElem? hget)
      obtain ⟨hm, -⟩ := hnames m q hq
      rw [Option.getD_some]
      omega
  · rw [htail (at_ := 0) rfl, hnone]; rfl
  · obtain ⟨hclose, hmeasured, hpermille⟩ := houtcome o ho
    have hkind : o.kind.code ≤ 1 := by cases o.kind <;> decide
    have hverdict : o.verdict.code < 16 := by cases o.verdict <;> decide
    have hjudged : field 38 1 = o.kind.code * 16 + o.verdict.code := by
      rw [htail (at_ := 0) rfl, ho]; exact bytesValue_byte (by omega)
    have hdetail : field 39 1 = detailCode o.detail := by
      rw [htail (at_ := 1) rfl, ho]
      refine bytesValue_byte ?_
      cases h : o.detail with
      | none => decide
      | some d => cases d <;> decide
    have hkindDigit : field 38 1 / 16 = o.kind.code := by omega
    have hverdictDigit : field 38 1 % 16 = o.verdict.code := by omega
    rw [hkindDigit, hverdictDigit, hdetail, htail (at_ := 2) rfl, htail (at_ := 6) rfl, htail (at_ := 8) rfl, ho]
    refine ⟨by cases o.kind <;> decide, by cases o.verdict <;> decide, bytesValue_be4_of_le hclose,
      bytesValue_be2_of_le hmeasured, bytesValue_be2_of_le (by omega), ?_⟩
    cases h : o.detail with
    | none => decide
    | some d => cases d <;> decide

end

section
/-! PROOF. The walks of the host port (R173, R174): the first member ahead of an index, and the images of a walk. -/

namespace Sys2Proof.Machine

/-- The lowest listed entry of which a property holds. -/
theorem Table.find?_of_lowest {α : Type} {t : Table α} (hrise : Table.Rising t) {p : Nat × α → Bool} {j : Nat} {v : α}
    (hv : Table.at? t j = some v) (hp : p (j, v) = true)
    (hlow : ∀ n w, Table.at? t n = some w → n < j → p (n, w) = false) : t.find? p = some (j, v) := by
  have hmem := Table.mem_of_at? hv
  obtain ⟨before, after, ht⟩ := List.append_of_mem hmem
  refine List.find?_eq_some_iff_append.mpr ⟨hp, before, after, ht, fun e he => ?_⟩
  have hbefore : e.1 < j := (List.pairwise_append.mp (ht ▸ hrise)).2.2 e he (j, v) (List.mem_cons_self ..)
  have hat : Table.at? t e.1 = some e.2 := (Table.mem_iff_at? hrise e.1 e.2).mp (by rw [ht]; exact List.mem_append_left _ he)
  rw [hlow e.1 e.2 hat hbefore]
  rfl

/-! ### The members of a walk (R174) -/

theorem RecordState.code_eq_iff (x : RecordState) (n : Nat) :
    x.code = n
      ↔ (x, n) ∈ [(.ready, 0), (.ordered, 1), (.testing, 2), (.recharging, 3), (.faulty, 4), (.silent, 5)] := by
  cases x <;> simp [RecordState.code, eq_comm (b := n)]

theorem WalkFilter.member_iff (f : WalkFilter) (r : Record) :
    f.member r = true
      ↔ f = .all ∨ f = .zone r.zone
        ∨ ∃ n, f = .state n
          ∧ (r.state, n)
            ∈ [(.ready, 0), (.ordered, 1), (.testing, 2), (.recharging, 3), (.faulty, 4), (.silent, 5)] := by
  cases f with
  | all => simp [WalkFilter.member]
  | zone z => simp [WalkFilter.member, eq_comm (a := z)]
  | state c => simp only [← RecordState.code_eq_iff]; simp [WalkFilter.member, eq_comm (a := c)]

section
variable {s : State} {f : WalkFilter} {lo hi j : Nat} {r : Record}

theorem State.memberIn_eq_none (hrise : Table.Rising s.luminaires) :
    s.memberIn f lo hi = none ↔ ∀ n q, lo ≤ n → n < hi → s.record? n = some q → ¬f.member q = true := by
  simp only [State.memberIn, List.find?_eq_none, Bool.and_eq_true, decide_eq_true_iff, not_and, Prod.forall,
    Table.mem_iff_at? hrise]
  exact ⟨fun h n q hlo hhi hq => h n q hq ⟨hlo, hhi⟩, fun h n q hq ⟨hlo, hhi⟩ => h n q hlo hhi hq⟩

theorem State.memberIn_of_lowest (hrise : Table.Rising s.luminaires) (hr : s.record? j = some r)
    (hm : f.member r = true) (hlo : lo ≤ j) (hhi : j < hi)
    (hlow : ∀ n q, lo ≤ n → n < j → s.record? n = some q → ¬f.member q = true) :
    s.memberIn f lo hi = some (j, r) := by
  refine Table.find?_of_lowest hrise hr (by simp [hlo, hhi, hm]) fun n q hq hn => ?_
  by_cases h : lo ≤ n
  · simp [hlow n q h hn hq]
  · simp [h]

end

/-! ### The first member ahead (R173) -/

/-- How far an index lies ahead of another, upwards and wrapping once. -/
def aheadOf (i j : Nat) : Nat := (j + 4096 - i) % 4096

/-- The indices that a walk has still to examine: every one where it has examined none, else those from its next index
up to its start index. -/
def WalkCursor.Left (c : WalkCursor) (first : Bool) (j : Nat) : Prop :=
  j < 4096 ∧ (first = true ∨ aheadOf c.next j < aheadOf c.next c.start)

section
variable {s : State} {c : WalkCursor} {first : Bool} {j : Nat} {r : Record}

/-- While the walk has still to wrap, what is left lies at or above its next index or below its start. -/
theorem WalkCursor.left_of_wrap (hnext : c.next < 4096) (hfirst : first = true → c.next = c.start)
    (hwrap : first = true ∨ c.start < c.next) (j : Nat) :
    c.Left first j ↔ (c.next ≤ j ∧ j < 4096) ∨ j < c.start := by
  unfold WalkCursor.Left aheadOf
  rcases hwrap with rfl | hlt
  · rw [hfirst rfl] at hnext ⊢
    simp only [true_or, and_true]
    omega
  · have hmore : first = false := Bool.eq_false_iff.mpr fun h => by have := hfirst h; omega
    simp only [hmore, Bool.false_eq_true, false_or]
    omega

/-- Once it has wrapped, what is left lies between its next index and its start. -/
theorem WalkCursor.left_of_wrapped (hstart : c.start < 4096) (hwrap : ¬(first = true ∨ c.start < c.next)) (j : Nat) :
    c.Left first j ↔ c.next ≤ j ∧ j < c.start := by
  obtain ⟨hmore, hle⟩ := not_or.mp hwrap
  unfold WalkCursor.Left aheadOf
  simp only [Bool.eq_false_iff.mpr hmore, Bool.false_eq_true, false_or]
  omega

theorem State.examine_of_wrap (hwrap : first = true ∨ c.start < c.next) :
    s.examine c first = (s.memberIn c.filter c.next 4096).or (s.memberIn c.filter 0 c.start) :=
  if_pos (by simpa using hwrap)

theorem State.examine_of_wrapped (hwrap : ¬(first = true ∨ c.start < c.next)) :
    s.examine c first = s.memberIn c.filter c.next c.start :=
  if_neg (by simpa using hwrap)

section
variable (hrise : Table.Rising s.luminaires) (hstart : c.start < 4096) (hnext : c.next < 4096)
  (hfirst : first = true → c.next = c.start)
include hrise hstart hnext hfirst

theorem State.examine_eq_none
    (hnone : ∀ j r, c.Left first j → s.record? j = some r → ¬c.filter.member r = true) :
    s.examine c first = none := by
  by_cases hwrap : first = true ∨ c.start < c.next
  · simp only [c.left_of_wrap hnext hfirst hwrap] at hnone
    have hhigh := (State.memberIn_eq_none hrise).mpr fun n q hlo hhi => hnone n q (.inl ⟨hlo, hhi⟩)
    have hlow := (State.memberIn_eq_none (lo := 0) hrise).mpr fun n q _ hhi => hnone n q (.inr hhi)
    rw [State.examine_of_wrap hwrap, hhigh, hlow]
    rfl
  · simp only [c.left_of_wrapped hstart hwrap] at hnone
    rw [State.examine_of_wrapped hwrap]
    exact (State.memberIn_eq_none hrise).mpr fun n q hlo hhi => hnone n q ⟨hlo, hhi⟩

theorem State.examine_of_nearest (hleft : c.Left first j) (hr : s.record? j = some r) (hm : c.filter.member r = true)
    (hnear : ∀ n q, c.Left first n → s.record? n = some q → c.filter.member q = true →
      aheadOf c.next j ≤ aheadOf c.next n) :
    s.examine c first = some (j, r) := by
  unfold aheadOf at hnear
  by_cases hwrap : first = true ∨ c.start < c.next
  · have hle : c.start ≤ c.next := hwrap.elim (fun h => (hfirst h).ge) le_of_lt
    simp only [c.left_of_wrap hnext hfirst hwrap] at hleft hnear
    rw [State.examine_of_wrap hwrap]
    rcases hleft with ⟨hlo, hhi⟩ | hlow
    · rw [State.memberIn_of_lowest hrise hr hm hlo hhi fun n q hn hnj hq hmem => ?_]
      · rfl
      · have := hnear n q (.inl ⟨hn, hnj.trans hhi⟩) hq hmem
        omega
    · have hhigh : s.memberIn c.filter c.next 4096 = none :=
        (State.memberIn_eq_none hrise).mpr fun n q hn hn' hq hmem => by
          have := hnear n q (.inl ⟨hn, hn'⟩) hq hmem
          omega
      rw [hhigh, Option.none_or]
      refine State.memberIn_of_lowest hrise hr hm (Nat.zero_le j) hlow fun n q _ hnj hq hmem => ?_
      have := hnear n q (.inr (hnj.trans hlow)) hq hmem
      omega
  · simp only [c.left_of_wrapped hstart hwrap] at hleft hnear
    rw [State.examine_of_wrapped hwrap]
    refine State.memberIn_of_lowest hrise hr hm hleft.1 hleft.2 fun n q hn hnj hq hmem => ?_
    have := hnear n q ⟨hn, hnj.trans hleft.2⟩ hq hmem
    omega

end

theorem nextIndex_eq (hj : j < 4096) : nextIndex j = (j + 1) % 4096 := by
  unfold nextIndex
  split <;> simp only [Config.slotCount] at * <;> omega

/-! ### The images (R173, R174) -/

theorem State.sampleMember_of_some (h : s.examine c first = some (j, r)) (hj : j < 4096) :
    s.sampleMember c first
      = { s with
          port := { s.port with walk := some { c with next := (j + 1) % 4096 }, output := recordImage j r } } := by
  simp only [State.sampleMember, h, nextIndex_eq hj]

theorem State.sampleMember_of_none (h : s.examine c first = none) : s.sampleMember c first = s.sampleEnd c := by
  simp only [State.sampleMember, h, State.sampleEnd]

theorem State.nextImage_of_none (h : s.port.walk = none) : s.nextImage = s := by
  simp only [State.nextImage, h]

theorem State.nextImage_of_done (h : s.port.walk = some c) (hdone : c.next = c.start) :
    s.nextImage = s.sampleEnd c := by
  simp only [State.nextImage, h, if_pos hdone]

theorem State.sampleEnd_of_done (h : s.port.walk = some c) (hdone : c.next = c.start) :
    s.sampleEnd c = { s with port := { s.port with output := endMarker } } := by
  have hc : { c with next := c.start } = c := by
    cases c
    cases hdone
    rfl
  rw [State.sampleEnd, hc, ← h]

theorem State.nextImage_of_more (h : s.port.walk = some c) (hmore : c.next ≠ c.start) :
    s.nextImage = s.sampleMember c false := by
  simp only [State.nextImage, h, if_neg hmore]

theorem State.nextImage_of_examine_none (h : s.port.walk = some c) (hnone : s.examine c false = none) :
    s.nextImage = s.sampleEnd c := by
  by_cases hdone : c.next = c.start
  · exact State.nextImage_of_done h hdone
  · rw [State.nextImage_of_more h hdone, State.sampleMember_of_none hnone]

/-- The first image of READ RECORD. -/
theorem State.startRecordWalk_of_lt {i : Nat} (hi : i < 4096) {image : List Byte}
    (h : s.record? i = none ∧ image = freeImage i ∨ ∃ r, s.record? i = some r ∧ image = recordImage i r) :
    s.startRecordWalk i
      = { s with
          port :=
            { s.port with
              walk := some { filter := .all, start := i, next := (i + 1) % 4096 }, output := image } } := by
  have hlt : i < Config.slotCount := hi
  rcases h with ⟨hr, rfl⟩ | ⟨r, hr, rfl⟩ <;>
    simp only [State.startRecordWalk, if_pos hlt, hr, nextIndex_eq hi]

theorem freeImage_eq (i : Nat) :
    freeImage i = BitVec.ofNat 8 (i / 256) :: BitVec.ofNat 8 (i % 256) :: 7 :: List.replicate 45 0 := by
  have hlow : BitVec.ofNat 8 (i % 256) = byte i := BitVec.eq_of_toNat_eq (by simp [byte])
  rw [hlow]
  rfl

end

end Sys2Proof.Machine

open Sys2Proof Sys2Proof.Machine

/-- Settles O52: the examination finds the nearest member ahead, and each image follows from what it finds. -/
theorem walks : Obligations.Walks := by
  refine ⟨fun s start hc hcalm hb => ?_, fun s hc hcalm => ?_⟩
  · intro i ahead begun ones
    have hrecord : exec (.readRecord start) s = .next (s.leaveStatus.startRecordWalk i) := readTake_calm hcalm hb
    have hwalk : ∀ {c f}, (∃ z : Byte, c = .walkZone z start ∧ f = .zone z.toNat)
        ∨ (∃ b : Byte, c = .walkState b start ∧ f = .state b.toNat) →
        exec c s = .next (s.leaveStatus.startWalk f i) := by
      rintro c f (⟨z, rfl, rfl⟩ | ⟨b, rfl, rfl⟩) <;> exact readTake_calm hcalm hb
    refine ⟨fun hi => ?_, fun hi => ?_⟩
    · have hpast : ¬i < Config.slotCount := Nat.not_lt.mpr hi
      have hmarks : ∀ f, s.leaveStatus.startWalk f i = begun f i ones := fun f => if_neg hpast
      exact ⟨hrecord.trans (congrArg _ (if_neg hpast)), fun z => (hwalk (.inl ⟨z, rfl, rfl⟩)).trans (congrArg _ (hmarks _)),
        fun b => (hwalk (.inr ⟨b, rfl, rfl⟩)).trans (congrArg _ (hmarks _))⟩
    have hlt : i < 4096 := Nat.lt_succ_of_le hi
    refine ⟨fun hr => ?_, fun r hr => ?_, fun c f member hf => ?_⟩
    · rw [hrecord, ← freeImage_eq, State.startRecordWalk_of_lt (s := s.leaveStatus) hlt (.inl ⟨hr, rfl⟩)]
      rfl
    · rw [hrecord, State.startRecordWalk_of_lt (s := s.leaveStatus) hlt (.inr ⟨r, hr, rfl⟩)]
      rfl
    have hm : ∀ r, f.member r = true ↔ member r := by
      rcases hf with ⟨z, -, rfl, hmember⟩ | ⟨b, -, rfl, hmember⟩
      · exact fun r => beq_iff_eq.trans (hmember r).symm
      · exact fun r => (beq_iff_eq.trans (RecordState.code_eq_iff ..)).trans (hmember r).symm
    have hexec : exec c s = .next (s.leaveStatus.sampleMember { filter := f, start := i, next := i } true) :=
      (hwalk (hf.imp (fun ⟨z, hc, hf, _⟩ => ⟨z, hc, hf⟩) fun ⟨b, hc, hf, _⟩ => ⟨b, hc, hf⟩)).trans
        (congrArg _ (if_pos hlt))
    refine ⟨fun hnone => ?_, fun j r hj hr hmember hnear => ?_⟩
    · rw [hexec, State.sampleMember_of_none]
      · rfl
      · exact State.examine_eq_none hc.1 hlt hlt (fun _ => rfl) fun n q hn hq hmem => hnone n q hn.1 hq ((hm q).mp hmem)
    · rw [hexec, State.sampleMember_of_some (j := j) (r := r) _ hj]
      · rfl
      · exact State.examine_of_nearest hc.1 hlt hlt (fun _ => rfl) ⟨hj, .inl rfl⟩ hr ((hm r).mpr hmember)
          fun n q hn hq hmem => hnear n q hn.1 hq ((hm q).mp hmem)
  · intro ones
    have hnext : exec .walkNextImage s = .next s.nextImage := exec_event_calm (c := .walkNextImage) rfl hcalm
    refine ⟨exec_event_calm (c := .walkEnd) rfl hcalm, fun hnone => ?_, fun c hwalk hdone => ?_,
      fun c hwalk hstart hlt => ?_⟩
    · rw [Idles, hnext, State.nextImage_of_none hnone]
    · rw [hnext, State.nextImage_of_done hwalk hdone, State.sampleEnd_of_done hwalk hdone]
      rfl
    · intro member ahead left
      have hm : ∀ r, c.filter.member r = true ↔ member r := c.filter.member_iff
      refine ⟨fun hnone => ?_, fun j r hj hr hmember hnear => ?_⟩
      · rw [hnext, State.nextImage_of_examine_none hwalk]
        · rfl
        · exact State.examine_eq_none hc.1 hstart hlt (fun h => by cases h) fun n q hn hq hmem =>
            hnone n q ⟨hn.1, hn.2.resolve_left (by decide)⟩ hq ((hm q).mp hmem)
      · have hmore : c.next ≠ c.start := fun h => by
          have hout : ahead j < ahead c.start := hj.2
          simp only [ahead, ← h] at hout
          omega
        rw [hnext, State.nextImage_of_more hwalk hmore, State.sampleMember_of_some (j := j) (r := r) _ hj.1]
        exact State.examine_of_nearest hc.1 hstart hlt (fun h => by cases h) ⟨hj.1, .inr hj.2⟩ hr ((hm r).mpr hmember)
          fun n q hn hq hmem => hnear n q ⟨hn.1, hn.2.resolve_left (by decide)⟩ hq ((hm q).mp hmem)

end

section
/-! PROOF. Runs of VOID closes (chapters 06 and 08): what a halt take and an outage entry do to a lawful state, one channel
after another. -/

namespace Sys2Proof.Machine

/-! ### Enrolled neighbours (R24) -/

theorem State.enrolledAmong_of_all {s : State} {l : List Nat} (h : ∀ n ∈ l, (s.record? n).isSome = true) :
    s.enrolledAmong l = l := List.filter_eq_self.mpr h

/-- A record that is enrolled later was enrolled before, so that filtering twice is filtering late. -/
theorem State.enrolledAmong_enrolledAmong {s t : State} (h : ∀ i, s.record? i = none → t.record? i = none) (l : List Nat) :
    t.enrolledAmong (s.enrolledAmong l) = t.enrolledAmong l := by
  have hkept : ∀ n, (t.record? n).isSome = true → (s.record? n).isSome = true := fun n hn => by
    by_contra hnot
    rw [h n (by simpa using hnot)] at hn
    cases hn
  rw [State.enrolledAmong, State.enrolledAmong, List.filter_filter]
  refine List.filter_congr fun n _ => ?_
  cases ht : (t.record? n).isSome with
  | false => rfl
  | true => rw [hkept n ht]; rfl

/-- In a lawful state every neighbour is enrolled. -/
theorem State.enrolledAmong_neighbours {s : State} (h : s.NeighbourLaw) {i : Nat} {r : Record} (hr : s.record? i = some r) :
    s.enrolledAmong r.neighbours = r.neighbours :=
  State.enrolledAmong_of_all fun n hn => by
    obtain ⟨-, -, -, hjoined⟩ := h i r hr
    obtain ⟨q, hq, -⟩ := hjoined n hn
    rw [hq]; rfl

/-! ### One VOID close -/

/-- A record is voided by what stands of its state; its neighbours have no part in it. -/
theorem State.voided_congr {s t : State} (hclock : t.clock = s.clock) (hfigures : ∀ c, t.figures c = s.figures c)
    (hloop : t.link.loopback = s.link.loopback) (c : Channel) (r : Record) (l : List Nat) :
    t.voided c { r with neighbours := l } = { s.voided c r with neighbours := l } := by
  have hnow : t.now = s.now := by rw [State.now, State.now, hclock]
  cases hstarted : c.started <;>
    simp [State.voided, State.judged, State.recharging, State.closeHold, hstarted, hnow, hfigures, hloop]

/-- The next state of a VOID close of a bound channel. -/
structure State.VoidCloses (t t' : State) (k : Nat) (r : Record) : Prop where
  lawful : t'.Lawful
  channel : ∀ j, t'.channelAt j = if k = j then { t.channelAt k with state := .free, role := .none } else t.channelAt j
  orders : ∀ o, o ∈ t'.link.dispatch ↔ o ∈ t.link.dispatch ∧ o.channel ≠ k
  sublist : t'.link.dispatch.Sublist t.link.dispatch
  link : t'.link = { t.link with dispatch := t'.link.dispatch, stallCount := t'.link.stallCount }
  figures : ∀ c, t'.figures c = t.figures c
  retired : r.retirePending = true → t'.record? (t.channelAt k).index = none
  voided : r.retirePending = false →
    t'.record? (t.channelAt k).index
      = some { t.voided (t.channelAt k) r with neighbours := t'.enrolledAmong r.neighbours }
  others : ∀ i p, i ≠ (t.channelAt k).index → t.record? i = some p →
    t'.record? i = some { p with neighbours := t'.enrolledAmong p.neighbours }
  free : ∀ i, t.record? i = none → t'.record? i = none
  ended : t.programme.state = .halting ∧ (∀ j, t.bound j = true → j = k) →
    t'.programme = { t.programme with state := .stopped }
      ∧ t'.causeAt .programme = { t.causeAt .programme with pending := true, carried := 0 }
  notEnded : ¬(t.programme.state = .halting ∧ ∀ j, t.bound j = true → j = k) →
    t'.programme = t.programme ∧ t'.causeAt .programme = t.causeAt .programme
  causes : ∀ c, c ≠ .programme → t'.causeAt c = t.causeAt c
  segments : ∀ g, t'.segmentAt g = { t.segmentAt g with active := (t'.segmentAt g).active }
  frame : t' =
    { t with
      luminaires := t'.luminaires
      zones := t'.zones
      classes := t'.classes
      lookup := t'.lookup
      segments := t'.segments
      channels := t'.channels
      link := t'.link
      programme := t'.programme
      attention := { t'.attention with changeMap := t.attention.changeMap } }

/-- A VOID makes no record FAULTY or SILENT. -/
theorem State.judged_void_state (s : State) (r : Record) {h : Closing} (hv : h.verdict = .void) :
    (s.judged r h).state ≠ .faulty ∧ (s.judged r h).state ≠ .silent := by
  simp only [State.judged, hv]
  split <;> exact ⟨RecordState.noConfusion, RecordState.noConfusion⟩

section
variable {t : State} {k : Nat} {r : Record} (h : t.Lawful) (hk : t.bound k = true)
  (hr : t.record? (t.channelAt k).index = some r)
include h hk hr

/-- The records after the VOID close of a retire-pending record: it is freed, and its neighbours lose it (R24). -/
theorem closeVoid_records_of_retire (hpending : r.retirePending = true) :
    (t.closeVoid k).record? (t.channelAt k).index = none
      ∧ (∀ i p, i ≠ (t.channelAt k).index → t.record? i = some p →
          (t.closeVoid k).record? i = some { p with neighbours := (t.closeVoid k).enrolledAmong p.neighbours })
      ∧ (∀ i, t.record? i = none → (t.closeVoid k).record? i = none)
      ∧ ∀ c, (t.closeVoid k).figures c = t.figures c := by
  obtain ⟨-, -, -, -, -, -, -, -, -, hretire, -⟩ :=
    close t k .void (some (t.channelAt k).startDetail) r hr (bound_lt h.queue.1 hk) ((t.bound_iff k).mp hk)
  obtain ⟨hluminaires, -, hclasses, -⟩ := hretire hpending
  have hn := h.register.neighbours
  have hrecord (i : Nat) : (t.closeVoid k).record? i = (t.freeRecord (t.channelAt k).index r).record? i :=
    congrArg (fun l => Table.at? l i) hluminaires
  have hself : (t.closeVoid k).record? (t.channelAt k).index = none := by
    rw [hrecord, State.freeRecord_record?, if_pos rfl]
  refine ⟨hself, fun i p hi hp => ?_, fun i hi => ?_, fun c => ?_⟩
  · have hleft : p.neighbours.filter (fun m => m != (t.channelAt k).index)
        = (t.closeVoid k).enrolledAmong p.neighbours := by
      refine List.filter_congr fun n hnp => ?_
      obtain ⟨-, -, -, hjoined⟩ := hn i p hp
      obtain ⟨q, hq, -⟩ := hjoined n hnp
      by_cases he : n = (t.channelAt k).index
      · rw [he, hself]; simp
      · rw [hrecord, State.freeRecord_target hn hr he hq]; simpa using he
    rw [hrecord, State.freeRecord_target hn hr hi hp, hleft]
  · rw [hrecord, State.freeRecord_record?, hi]
    split
    · rfl
    · split <;> rfl
  · have hclass : ((t.freeRecord (t.channelAt k).index r).classAt c).figures = (t.classAt c).figures :=
      (t.freeRecord_settings (t.channelAt k).index r).2 c
    have hsame : (t.closeVoid k).classAt c = (t.freeRecord (t.channelAt k).index r).classAt c :=
      congrArg (fun l => Table.atD l c ClassEntry.reset) hclasses
    rw [State.figures, State.figures, ClassEntry.read, ClassEntry.read, hsame, hclass]

/-- The records after the VOID close of any other record. -/
theorem closeVoid_records_of_judge (hpending : r.retirePending = false) :
    (t.closeVoid k).record? (t.channelAt k).index
        = some { t.voided (t.channelAt k) r with neighbours := (t.closeVoid k).enrolledAmong r.neighbours }
      ∧ (∀ i p, i ≠ (t.channelAt k).index → t.record? i = some p →
          (t.closeVoid k).record? i = some { p with neighbours := (t.closeVoid k).enrolledAmong p.neighbours })
      ∧ (∀ i, t.record? i = none → (t.closeVoid k).record? i = none)
      ∧ ∀ c, (t.closeVoid k).figures c = t.figures c := by
  obtain ⟨-, -, -, -, -, -, -, -, -, -, hjudge, -⟩ :=
    close t k .void (some (t.channelAt k).startDetail) r hr (bound_lt h.queue.1 hk) ((t.bound_iff k).mp hk)
  obtain ⟨hself, hothers, -, -, hclasses, -⟩ := hjudge hpending
  have hn := h.register.neighbours
  replace hself : (t.closeVoid k).record? (t.channelAt k).index = some (t.voided (t.channelAt k) r) := hself
  replace hothers : ∀ i, i ≠ (t.channelAt k).index → (t.closeVoid k).record? i = t.record? i := hothers
  have hsame (i : Nat) : ((t.closeVoid k).record? i).isSome = (t.record? i).isSome := by
    by_cases hi : i = (t.channelAt k).index
    · rw [hi, hself, hr]; rfl
    · rw [hothers i hi]
  have hall {i : Nat} {p : Record} (hp : t.record? i = some p) :
      (t.closeVoid k).enrolledAmong p.neighbours = p.neighbours := by
    have heq : (t.closeVoid k).enrolledAmong p.neighbours = t.enrolledAmong p.neighbours :=
      List.filter_congr fun n _ => hsame n
    rw [heq, State.enrolledAmong_neighbours hn hp]
  refine ⟨?_, fun i p hi hp => ?_, fun i hi => ?_, fun c => ?_⟩
  · rw [hself, hall hr]
    exact congrArg some (State.voided_congr (s := t) rfl (fun _ => rfl) rfl _ r r.neighbours)
  · rw [hothers i hi, hp, hall hp]
  · have hne : i ≠ (t.channelAt k).index := fun he => by rw [he, hr] at hi; cases hi
    rw [hothers i hne, hi]
  · exact congrArg (fun l => (Table.atD l c ClassEntry.reset).read) hclasses

theorem closeVoid_effect : t.VoidCloses (t.closeVoid k) k r := by
  obtain ⟨-, -, hactive, hsegments, horders, hsublist, -, -, hlink, hretire, hjudge, hend, hnot, hcauses, hframe⟩ :=
    close t k .void (some (t.channelAt k).startDetail) r hr (bound_lt h.queue.1 hk) ((t.bound_iff k).mp hk)
  have hlast : (t.programme.state = .halting ∧ ∀ j, j < 32 → j ≠ k → (t.channelAt j).state = .free)
      ↔ t.programme.state = .halting ∧ ∀ j, t.bound j = true → j = k := by
    refine and_congr_right fun _ => forall_congr' fun j => ?_
    rw [State.bound_iff]
    refine ⟨fun hall hbound => ?_, fun hall _ hj => by_contra fun hbound => hj (hall hbound)⟩
    by_contra hj
    exact hbound (hall (bound_lt h.queue.1 ((t.bound_iff j).mpr hbound)) hj)
  rw [hlast] at hend hnot
  have hstates := t.judged_void_state r
    (h := (t.channelAt k).closing .void (some (t.channelAt k).startDetail)) rfl
  have hnotices : (t.closeVoid k).causeAt .faultFound = t.causeAt .faultFound
      ∧ (t.closeVoid k).causeAt .silentFound = t.causeAt .silentFound := by
    cases hpending : r.retirePending with
    | true =>
      obtain ⟨-, -, -, -, hfault, hsilent⟩ := hretire hpending
      exact ⟨hfault, hsilent⟩
    | false =>
      obtain ⟨-, -, -, -, -, -, -, hfault, -, hsilent⟩ := hjudge hpending
      exact ⟨hfault hstates.1, hsilent hstates.2⟩
  obtain ⟨hothers, hfree, hfigures⟩ : (∀ i p, i ≠ (t.channelAt k).index → t.record? i = some p →
          (t.closeVoid k).record? i = some { p with neighbours := (t.closeVoid k).enrolledAmong p.neighbours })
      ∧ (∀ i, t.record? i = none → (t.closeVoid k).record? i = none)
      ∧ ∀ c, (t.closeVoid k).figures c = t.figures c := by
    cases hpending : r.retirePending with
    | true => exact (closeVoid_records_of_retire h hk hr hpending).2
    | false => exact (closeVoid_records_of_judge h hk hr hpending).2
  exact
    { lawful := lawful_closeVoid h hk
      channel := t.close_channelAt k _ _
      orders := fun o => by
        rw [State.closeVoid, horders]
        refine and_congr_right fun ho => not_congr ⟨And.left, fun hoc => ⟨hoc, ?_⟩⟩
        obtain ⟨-, hgeneration⟩ := h.queue.2.1 o ho
        rw [hgeneration, hoc]
      sublist := hsublist
      link := hlink
      figures := hfigures
      retired := fun hpending => (closeVoid_records_of_retire h hk hr hpending).1
      voided := fun hpending => (closeVoid_records_of_judge h hk hr hpending).1
      others := hothers
      free := hfree
      ended := hend
      notEnded := hnot
      causes := fun c hc => by
        by_cases hfault : c = .faultFound
        · rw [hfault, hnotices.1]
        by_cases hsilent : c = .silentFound
        · rw [hsilent, hnotices.2]
        exact hcauses c hfault hsilent hc
      segments := fun g => by
        by_cases hg : g = r.segment
        · rw [hg, State.closeVoid, hactive]
        · rw [State.closeVoid, hsegments g hg]
      frame := hframe }

end

/-! ### A run of VOID closes and restores -/

/-- What a run from a lawful state `s` has come to in `t`: the channels of `closed` have been closed VOID, one after
another, and a record that is not theirs is what `held` makes of it, apart from neighbours freed. The segments, their
change map and notice are said apart. -/
structure State.VoidRun (s t : State) (closed : Nat → Prop) (held : Record → Record) : Prop where
  lawful : t.Lawful
  bound : ∀ k, closed k → s.bound k = true
  freed : ∀ k, closed k → t.channelAt k = { s.channelAt k with state := .free, role := .none }
  left : ∀ k, ¬closed k → t.channelAt k = s.channelAt k
  orders : ∀ o, o ∈ t.link.dispatch ↔ o ∈ s.link.dispatch ∧ ¬closed o.channel
  sublist : t.link.dispatch.Sublist s.link.dispatch
  link : t.link = { s.link with dispatch := t.link.dispatch, stallCount := t.link.stallCount }
  clock : t.clock = s.clock
  figures : ∀ c, t.figures c = s.figures c
  retired : ∀ k r, closed k → s.record? (s.channelAt k).index = some r → r.retirePending = true →
    t.record? (s.channelAt k).index = none
  voided : ∀ k r, closed k → s.record? (s.channelAt k).index = some r → r.retirePending = false →
    t.record? (s.channelAt k).index
      = some { s.voided (s.channelAt k) r with neighbours := t.enrolledAmong r.neighbours }
  others : ∀ i r, s.record? i = some r → (∀ k, closed k → (s.channelAt k).index ≠ i) →
    t.record? i = some { held r with neighbours := t.enrolledAmong r.neighbours }
  free : ∀ i, s.record? i = none → t.record? i = none
  inTest : ∀ r, r.state.inTest = true → held r = r
  ended : s.programme.state = .halting ∧ (∃ k, closed k) ∧ (∀ k, s.bound k = true → closed k) →
    t.programme = { s.programme with state := .stopped }
      ∧ t.causeAt .programme = { s.causeAt .programme with pending := true, carried := 0 }
  notEnded : ¬(s.programme.state = .halting ∧ (∃ k, closed k) ∧ ∀ k, s.bound k = true → closed k) →
    t.programme = s.programme ∧ t.causeAt .programme = s.causeAt .programme
  causes : ∀ c, c ≠ .mainsChange → c ≠ .programme → t.causeAt c = s.causeAt c
  frame : t =
    { s with
      luminaires := t.luminaires
      zones := t.zones
      classes := t.classes
      lookup := t.lookup
      segments := t.segments
      channels := t.channels
      link := t.link
      programme := t.programme
      attention := t.attention }

section
variable {s t : State} {closed : Nat → Prop} {held : Record → Record} {k : Nat} {r : Record}

theorem State.VoidRun.refl (w : s.Lawful) : s.VoidRun s (fun _ => False) id where
  lawful := w
  bound := fun _ h => h.elim
  freed := fun _ h => h.elim
  left := fun _ _ => rfl
  orders := fun o => by simp
  sublist := List.Sublist.refl _
  link := rfl
  clock := rfl
  figures := fun _ => rfl
  retired := fun _ _ h => h.elim
  voided := fun _ _ h => h.elim
  others := fun i r hr _ => by rw [State.enrolledAmong_neighbours w.register.neighbours hr]; exact hr
  free := fun _ h => h
  inTest := fun _ _ => rfl
  ended := fun ⟨_, ⟨_, h⟩, _⟩ => h.elim
  notEnded := fun _ => ⟨rfl, rfl⟩
  causes := fun _ _ _ => rfl
  frame := rfl

theorem State.VoidRun.congr {closed' : Nat → Prop} (h : s.VoidRun t closed held) (hc : ∀ k, closed k ↔ closed' k) :
    s.VoidRun t closed' held := by
  obtain rfl : closed = closed' := funext fun k => propext (hc k)
  exact h

theorem State.VoidRun.bound_iff (h : s.VoidRun t closed held) (k : Nat) :
    t.bound k = true ↔ s.bound k = true ∧ ¬closed k := by
  rw [State.bound_iff, State.bound_iff]
  by_cases hk : closed k
  · rw [h.freed k hk]; simp [hk]
  · rw [h.left k hk]; simp [hk]

/-- The record of a channel still bound is as it was, apart from neighbours freed. -/
theorem State.VoidRun.boundRecord (w : s.Lawful) (h : s.VoidRun t closed held) (hk : s.bound k = true) (hopen : ¬closed k)
    (hr : s.record? (s.channelAt k).index = some r) :
    t.record? (s.channelAt k).index = some { r with neighbours := t.enrolledAmong r.neighbours } := by
  obtain ⟨-, hrecords, hunique, -⟩ := w.binding
  obtain ⟨r', hr', hin⟩ := hrecords k hk
  cases hr.symm.trans hr'
  have hother : ∀ j, closed j → (s.channelAt j).index ≠ (s.channelAt k).index := fun j hj he =>
    hopen (hunique j k (h.bound j hj) hk he ▸ hj)
  rw [h.others _ r hr hother, h.inTest r hin]

/-- The run goes on with the VOID close of a channel. -/
theorem State.VoidRun.closeVoid (w : s.Lawful) (h : s.VoidRun t closed held) (hk : t.bound k = true) :
    s.VoidRun (t.closeVoid k) (fun j => closed j ∨ j = k) held := by
  obtain ⟨hbound, hopen⟩ := (h.bound_iff k).mp hk
  have hchannel := h.left k hopen
  obtain ⟨-, hrecords, hunique, -⟩ := w.binding
  obtain ⟨r, hr, hin⟩ := hrecords k hbound
  have hq := h.boundRecord w hbound hopen hr
  have e := closeVoid_effect h.lawful hk (hchannel.symm ▸ hq)
  have hnotYet : ¬(s.programme.state = .halting ∧ (∃ k, closed k) ∧ ∀ k, s.bound k = true → closed k) :=
    fun ⟨_, _, hall⟩ => hopen (hall k hbound)
  obtain ⟨hprogramme, hcause⟩ := h.notEnded hnotYet
  have hlast : (t.programme.state = .halting ∧ ∀ j, t.bound j = true → j = k)
      ↔ s.programme.state = .halting ∧ (∃ j, closed j ∨ j = k) ∧ ∀ j, s.bound j = true → closed j ∨ j = k := by
    rw [hprogramme]
    simp only [h.bound_iff]
    refine and_congr_right fun _ => ⟨fun hall => ⟨⟨k, .inr rfl⟩, fun j hj => ?_⟩, fun ⟨_, hall⟩ j ⟨hj, hno⟩ => ?_⟩
    · by_cases hc : closed j
      · exact .inl hc
      · exact .inr (hall j ⟨hj, hc⟩)
    · exact (hall j hj).resolve_left hno
  have hne : ∀ {j}, closed j → k ≠ j := fun hj he => hopen (he ▸ hj)
  have hmono := State.enrolledAmong_enrolledAmong e.free
  exact
    { lawful := e.lawful
      bound := fun j hj => hj.elim (h.bound j) fun he => he ▸ hbound
      freed := fun j hj => by
        rcases hj with hj | rfl
        · rw [e.channel, if_neg (hne hj), h.freed j hj]
        · rw [e.channel, if_pos rfl, hchannel]
      left := fun j hj => by
        rw [e.channel, if_neg fun he => hj (.inr he.symm), h.left j fun hc => hj (.inl hc)]
      orders := fun o => by
        rw [e.orders, h.orders, not_or, and_assoc]
      sublist := e.sublist.trans h.sublist
      link := by rw [e.link, h.link]
      clock := by rw [e.frame]; exact h.clock
      figures := fun c => (e.figures c).trans (h.figures c)
      retired := fun j p hj hp hpending => by
        rcases hj with hj | rfl
        · exact e.free _ (h.retired j p hj hp hpending)
        · cases hr.symm.trans hp
          exact hchannel ▸ e.retired hpending
      voided := fun j p hj hp hpending => by
        rcases hj with hj | rfl
        · have hindex : (s.channelAt j).index ≠ (t.channelAt k).index := fun he =>
            hne hj (hunique j k (h.bound j hj) hbound (he.trans (congrArg Channel.index hchannel))).symm
          rw [e.others _ _ hindex (h.voided j p hj hp hpending), hmono]
        · cases hr.symm.trans hp
          have hself := e.voided hpending
          rw [hchannel, State.voided_congr h.clock h.figures (by rw [h.link]), hmono] at hself
          exact hself
      others := fun i p hp hother => by
        have hindex : i ≠ (t.channelAt k).index := fun he => hother k (.inr rfl) (hchannel ▸ he.symm)
        rw [e.others i _ hindex (h.others i p hp fun j hj => hother j (.inl hj)), hmono]
      free := fun i hi => e.free i (h.free i hi)
      inTest := h.inTest
      ended := fun hend => by
        obtain ⟨hp, hc⟩ := e.ended (hlast.mpr hend)
        rw [hp, hc, hprogramme, hcause]
        exact ⟨rfl, rfl⟩
      notEnded := fun hend => by
        obtain ⟨hp, hc⟩ := e.notEnded (mt hlast.mp hend)
        rw [hp, hc, hprogramme, hcause]
        exact ⟨rfl, rfl⟩
      causes := fun c hm hp => (e.causes c hp).trans (h.causes c hm hp)
      frame := by
        rw [e.frame, h.frame] }

/-- A fold that closes VOID the bound channels of which `Q` holds. -/
theorem State.VoidRun.foldl (w : s.Lawful) {f : State → Nat → State} {Q : Nat → Prop}
    (hits : ∀ {t closed} k, s.VoidRun t closed held → t.bound k = true → Q k → f t k = t.closeVoid k)
    (misses : ∀ {t closed} k, s.VoidRun t closed held → ¬(t.bound k = true ∧ Q k) → f t k = t) (l : List Nat) :
    ∀ {t closed}, s.VoidRun t closed held →
      s.VoidRun (l.foldl f t) (fun k => closed k ∨ (k ∈ l ∧ s.bound k = true ∧ Q k)) held := by
  induction l with
  | nil => exact fun h => h.congr fun k => by simp
  | cons j l ih =>
    intro t closed h
    rw [List.foldl_cons]
    by_cases hhit : t.bound j = true ∧ Q j
    · rw [hits j h hhit.1 hhit.2]
      have hj := ((h.bound_iff j).mp hhit.1).1
      refine (ih (h.closeVoid w hhit.1)).congr fun k => ?_
      rw [List.mem_cons, or_assoc]
      refine or_congr_right ⟨?_, ?_⟩
      · rintro (rfl | ⟨hk, hq⟩)
        · exact ⟨.inl rfl, hj, hhit.2⟩
        · exact ⟨.inr hk, hq⟩
      · rintro ⟨rfl | hk, hq⟩
        · exact .inl rfl
        · exact .inr ⟨hk, hq⟩
    · rw [misses j h hhit]
      refine (ih h).congr fun k => ?_
      rw [List.mem_cons]
      by_cases hc : closed k
      · simp [hc]
      · have hmiss : k = j → ¬(s.bound k = true ∧ Q k) := fun he ⟨hb, hq⟩ =>
          hhit (he ▸ ⟨(h.bound_iff k).mpr ⟨hb, hc⟩, hq⟩)
        refine or_congr_right ⟨fun ⟨hk, hq⟩ => ⟨.inr hk, hq⟩, fun ⟨hk, hq⟩ => ⟨hk.resolve_left fun he => hmiss he hq, hq⟩⟩

theorem State.onSegment_iff {k g : Nat} :
    s.onSegment k g = true ↔ ∃ r, s.record? (s.channelAt k).index = some r ∧ r.segment = g := by
  unfold State.onSegment
  cases s.record? (s.channelAt k).index with
  | none => simp
  | some r => simp

/-- The segment of a channel still bound is that of its record before the run. -/
theorem State.VoidRun.segment_iff (w : s.Lawful) (h : s.VoidRun t closed held) (hk : t.bound k = true) (P : Nat → Prop) :
    (∃ q, t.record? (t.channelAt k).index = some q ∧ P q.segment)
      ↔ ∃ r, s.record? (s.channelAt k).index = some r ∧ P r.segment := by
  obtain ⟨hbound, hopen⟩ := (h.bound_iff k).mp hk
  obtain ⟨r, hr, -⟩ := w.binding.2.1 k hbound
  rw [h.left k hopen, h.boundRecord w hbound hopen hr, hr]
  simp

/-! ### What VOID closes leave of the segments and their notice -/

/-- Of the segments only active counts have changed, and the change map and its notice stand. -/
def State.SameMains (s t : State) : Prop :=
  (∀ g, t.segmentAt g = { s.segmentAt g with active := (t.segmentAt g).active })
    ∧ t.attention.changeMap = s.attention.changeMap ∧ t.causeAt .mainsChange = s.causeAt .mainsChange

theorem State.SameMains.refl (s : State) : s.SameMains s := ⟨fun _ => rfl, rfl, rfl⟩

theorem State.SameMains.closeVoid (h : s.SameMains t) (ht : t.Lawful) (hk : t.bound k = true) :
    s.SameMains (t.closeVoid k) := by
  obtain ⟨hsegments, hmap, hcause⟩ := h
  obtain ⟨r, hr, -⟩ := ht.binding.2.1 k hk
  have e := closeVoid_effect ht hk hr
  refine ⟨fun g => ?_, ?_, (e.causes _ (by decide)).trans hcause⟩
  · rw [e.segments g, hsegments g]
  · rw [e.frame]; exact hmap

/-- The active count of a segment is that of its bound channels, so it follows from which of them are closed. -/
theorem State.VoidRun.active_eq (w : s.Lawful) (h : s.VoidRun t closed held) {g : Nat}
    (hnone : ∀ k r, closed k → s.record? (s.channelAt k).index = some r → r.segment ≠ g) :
    (t.segmentAt g).active = (s.segmentAt g).active := by
  obtain ⟨-, -, -, -, hactive⟩ := w.binding
  obtain ⟨-, -, -, -, hactive'⟩ := h.lawful.binding
  rw [hactive, hactive']
  refine congrArg List.length (List.filter_congr fun k _ => Bool.eq_iff_iff.mpr ?_)
  rw [Bool.and_eq_true, Bool.and_eq_true, State.onSegment_iff, State.onSegment_iff]
  refine ⟨fun ⟨hk, hon⟩ => ⟨((h.bound_iff k).mp hk).1, (h.segment_iff w hk (· = g)).mp hon⟩, fun ⟨hk, hon⟩ => ?_⟩
  obtain ⟨r, hr, hg⟩ := hon
  have hbound := (h.bound_iff k).mpr ⟨hk, fun hc => hnone k r hc hr hg⟩
  exact ⟨hbound, (h.segment_iff w hbound (· = g)).mpr ⟨r, hr, hg⟩⟩

theorem State.VoidRun.active_eq_zero (w : s.Lawful) (h : s.VoidRun t closed held) {g : Nat}
    (hall : ∀ k r, s.bound k = true → s.record? (s.channelAt k).index = some r → r.segment = g → closed k) :
    (t.segmentAt g).active = 0 := by
  obtain ⟨-, -, -, -, hactive'⟩ := h.lawful.binding
  rw [hactive', List.length_eq_zero_iff, List.filter_eq_nil_iff]
  intro k _ hon
  rw [Bool.and_eq_true, State.onSegment_iff] at hon
  obtain ⟨r, hr, hg⟩ := (h.segment_iff w hon.1 (· = g)).mp hon.2
  obtain ⟨hbound, hopen⟩ := (h.bound_iff k).mp hon.1
  exact hopen (hall k r hbound hr hg)

end

/-! ### The halt take (R155) -/

theorem State.writeHaltWord_of_free {s : State} (h : s.link.haltBox = none) :
    s.writeHaltWord
      = { s with
          link := { s.link with haltBox := if s.pendingHalt = 0 then none else some s.pendingHalt }
          pendingHalt := 0 } := by
  by_cases hp : s.pendingHalt = 0
  · rw [State.writeHaltWord_of_not fun hroom => hroom.2 hp, if_pos hp, ← h, ← hp]
  · rw [State.writeHaltWord_of_room ⟨h, hp⟩, if_neg hp]

/-- The state in which the taken word's channels are looked at. -/
def State.haltTaken (s : State) (m : SegMap) : State :=
  { s with
    link := { s.link with haltBox := none }
    line := if s.link.loopback then s.line else { s.line with halt := some (boxWord s.link.sense m) } }

/-- The channels of a halt word, closed one after another. -/
def State.haltCloses (s : State) (m : SegMap) : State := allChannels.foldl (State.haltTakeAt m) (s.haltTaken m)

section
variable {s : State} {m : SegMap} {k : Nat}

theorem State.takeHalt_of_not (h : s.link.haltBox = none ∨ s.link.configured = false) : s.takeHalt = s := by
  unfold State.takeHalt
  split
  · rfl
  next hbox =>
    refine if_neg fun hconfigured => ?_
    rw [hbox, hconfigured] at h
    simp at h

theorem State.takeHalt_of_word (hbox : s.link.haltBox = some m) (hconfigured : s.link.configured = true) :
    s.takeHalt = (s.haltCloses m).writeHaltWord := by
  unfold State.takeHalt
  split
  next hnone => rw [hnone] at hbox; cases hbox
  next m' hword =>
    cases hbox.symm.trans hword
    exact if_pos hconfigured

/-- The channels a halt word takes: ABORTING by HALT on a segment of the word. -/
def State.HaltTakes (s : State) (m : SegMap) (k : Nat) : Prop :=
  (s.channelAt k).state = .aborting ∧ (s.channelAt k).path = .halt
    ∧ ∃ r, s.record? (s.channelAt k).index = some r ∧ m.getLsbD r.segment = true

theorem State.haltTakeAt_of (h : s.HaltTakes m k) : State.haltTakeAt m s k = s.closeVoid k := by
  obtain ⟨hstate, hpath, hmap⟩ := h
  exact if_pos ⟨hstate, hpath, State.onMap_iff.mpr hmap⟩

theorem State.haltTakeAt_of_not (h : ¬s.HaltTakes m k) : State.haltTakeAt m s k = s :=
  if_neg fun ⟨hstate, hpath, hmap⟩ => h ⟨hstate, hpath, State.onMap_iff.mp hmap⟩

theorem State.HaltTakes.bound (h : s.HaltTakes m k) : s.bound k = true :=
  bound_of_state h.1 ChannelState.noConfusion

theorem lawful_haltTaken (h : s.Lawful) (m : SegMap) : (s.haltTaken m).Lawful := by
  have hboxes := lawful_setBoxes h none s.link.mainsBox
  exact lawful_unread hboxes rfl hboxes.canonical

/-- During the run the channels still to take are those the word takes and has not taken. -/
theorem State.VoidRun.haltTakes_iff {t : State} {closed : Nat → Prop} (w : s.Lawful) (h : s.VoidRun t closed id)
    (hk : t.bound k = true) : t.HaltTakes m k ↔ s.HaltTakes m k := by
  obtain ⟨-, hopen⟩ := (h.bound_iff k).mp hk
  have hsegment := h.segment_iff w hk fun g => m.getLsbD g = true
  unfold State.HaltTakes
  rw [hsegment, h.left k hopen]

theorem haltCloses_run (h : s.Lawful) (m : SegMap) :
    (s.haltTaken m).VoidRun (s.haltCloses m) (s.HaltTakes m) id
      ∧ (s.haltTaken m).SameMains (s.haltCloses m) := by
  have w := lawful_haltTaken h m
  constructor
  · refine ((State.VoidRun.refl w).foldl w (Q := s.HaltTakes m)
      (fun k hrun hk htakes => State.haltTakeAt_of ((hrun.haltTakes_iff w hk).mpr htakes))
      (fun k hrun hnot => State.haltTakeAt_of_not fun htakes =>
        hnot ⟨htakes.bound, (hrun.haltTakes_iff w htakes.bound).mp htakes⟩) allChannels).congr fun k => ?_
    simp only [false_or]
    exact ⟨fun ⟨_, _, htakes⟩ => htakes, fun htakes =>
      ⟨mem_allChannels.mpr (bound_lt h.queue.1 htakes.bound), htakes.bound, htakes⟩⟩
  · refine (foldl_keeps (P := fun t => t.Lawful ∧ (s.haltTaken m).SameMains t) (fun t k ht => ?_) allChannels
      ⟨w, .refl _⟩).2
    obtain ⟨hlawful, hsame⟩ := ht
    by_cases htakes : t.HaltTakes m k
    · rw [State.haltTakeAt_of htakes]
      exact ⟨lawful_closeVoid hlawful htakes.bound, hsame.closeVoid hlawful htakes.bound⟩
    · rw [State.haltTakeAt_of_not htakes]
      exact ⟨hlawful, hsame⟩

end

end Sys2Proof.Machine

open Sys2Proof Sys2Proof.Machine

/-- Settles O41: the closes are a run of VOID closes from the state with the word taken (`haltCloses_run`),
  whose account gives each
clause; the next halt word is written last. -/
theorem haltTake : Obligations.HaltTake := by
  intro s hcalm
  have hexec : exec .haltTake s = .next s.takeHalt := exec_event_calm (c := .haltTake) rfl hcalm
  refine ⟨fun hnot => ?_, fun m hbox hconfigured => ?_⟩
  · rw [Idles, hexec, State.takeHalt_of_not hnot]
  intro u taken ended
  rw [State.takeHalt_of_word hbox hconfigured] at hexec
  have hu : u = s.haltTaken m := by
    unfold u State.haltTaken
    cases s.link.loopback <;> rfl
  refine ⟨by rw [hu]; exact hexec, fun w => ?_⟩
  obtain ⟨run, hsegments, hmap, hmains⟩ := haltCloses_run w m
  have hline : (s.haltTaken m).line = u.line := by rw [hu]
  generalize s.haltCloses m = v at run hsegments hmap hmains hexec
  have hlink := run.link
  have hpending : v.pendingHalt = s.pendingHalt := by rw [run.frame]; rfl
  have hclosed : ∀ {k r}, taken k r → s.HaltTakes m k := fun ⟨hstate, hpath, hr, hbit⟩ => ⟨hstate, hpath, _, hr, hbit⟩
  have hrecord : ∀ {k r}, taken k r → s.record? (s.channelAt k).index = some r := fun h => h.2.2.1
  have htaken : ∀ {k}, s.HaltTakes m k → ∃ r, taken k r :=
    fun ⟨hstate, hpath, r, hr, hbit⟩ => ⟨r, hstate, hpath, hr, hbit⟩
  have htakenOf : ∀ {k r}, s.HaltTakes m k → s.record? (s.channelAt k).index = some r → taken k r :=
    fun ⟨hstate, hpath, r', hr', hbit⟩ hr => ⟨hstate, hpath, hr, Option.some.inj (hr'.symm.trans hr) ▸ hbit⟩
  have hended : ended ↔ s.programme.state = .halting ∧ (∃ k, s.HaltTakes m k) ∧ ∀ k, s.bound k = true → s.HaltTakes m k := by
    refine and_congr_right fun _ => and_congr ⟨fun ⟨k, r, h⟩ => ⟨k, hclosed h⟩, fun ⟨k, h⟩ => ⟨k, htaken h⟩⟩ ?_
    exact forall_congr' fun k => imp_congr_right fun _ => ⟨fun ⟨r, h⟩ => hclosed h, htaken⟩
  rw [State.writeHaltWord_of_free (by rw [hlink]; rfl), hpending] at hexec
  refine ⟨_, hexec, fun k r h => run.freed k (hclosed h), fun k h => run.left k fun hk => (htaken hk).elim h,
    fun g hnone => ?_, hsegments, fun o => ?_, run.sublist, fun k r h => run.retired k r (hclosed h) (hrecord h),
    fun k r h => run.voided k r (hclosed h) (hrecord h), fun i r hr hother => ?_, run.free,
    fun h => run.ended (hended.mp h), fun h => run.notEnded (mt hended.mpr h), fun c hc => ?_, ?_, ?_⟩
  · refine (hsegments g).trans ?_
    rw [run.active_eq (lawful_haltTaken w m) fun k r hk hr => hnone k r (htakenOf hk hr)]
    rfl
  · exact (run.orders o).trans (and_congr_right fun _ =>
      ⟨fun hopen r h => hopen (hclosed h), fun hall h => (htaken h).elim hall⟩)
  · exact run.others i r hr fun k hk he => hother k (htakenOf hk (he.symm ▸ hr)) he
  · by_cases hm : c = .mainsChange
    · rw [hm]; exact hmains
    · exact run.causes c hm hc
  · show ({ v.link with haltBox := _ } : Link) = _
    rw [hlink]
    rfl
  · have hattention : v.attention = { v.attention with changeMap := s.attention.changeMap } := by
      rw [← show v.attention.changeMap = s.attention.changeMap from hmap]
    have hframe := run.frame
    rw [hattention, hline] at hframe
    rw [hframe]
    rfl

end

section
/-! PROOF. The mains word take (R143, R147 to R150): segment after segment, what a word that passes its check does to a
lawful state. -/

namespace Sys2Proof.Machine

section
variable {s t : State} {closed : Nat → Prop} {held : Record → Record} {g : Nat}

/-! ### A mains transition and the outage holds within a run -/

theorem State.mainsTransition_segmentAt (s : State) (g : Nat) (a : Mains) (o : Option Nat) (h : Nat) :
    (s.mainsTransition g a o).segmentAt h
      = if g = h then { s.segmentAt g with mains := a, outageStart := o } else s.segmentAt h :=
  s.setSegment_segmentAt g _ h

theorem State.mainsTransition_changeMap (s : State) (hg : g < 16) (a : Mains) (o : Option Nat) (h : Nat) :
    (s.mainsTransition g a o).attention.changeMap.getLsbD h = true
      ↔ s.attention.changeMap.getLsbD h = true ∨ h = g := by
  show (s.attention.changeMap ||| markOf g).getLsbD h = true ↔ _
  rw [BitVec.getLsbD_or, Bool.or_eq_true, getLsbD_markOf hg]

theorem State.VoidRun.mainsTransition (run : s.VoidRun t closed held) {a : Mains} {o : Option Nat}
    (hlawful : (t.mainsTransition g a o).Lawful) : s.VoidRun (t.mainsTransition g a o) closed held :=
  { run with
    lawful := hlawful
    ended := fun h => by
      obtain ⟨hprogramme, hcause⟩ := run.ended h
      exact ⟨hprogramme, (State.raiseMainsChange_causeAt _ g .programme).trans hcause⟩
    notEnded := fun h => by
      obtain ⟨hprogramme, hcause⟩ := run.notEnded h
      exact ⟨hprogramme, (State.raiseMainsChange_causeAt _ g .programme).trans hcause⟩
    causes := fun c hm hp =>
      ((State.raiseMainsChange_causeAt _ g c).trans (if_neg (Ne.symm hm))).trans (run.causes c hm hp)
    frame := congrArg
      (fun x : State =>
        { x with
          segments := (t.mainsTransition g a o).segments, attention := (t.mainsTransition g a o).attention })
      run.frame }

theorem State.restored_of_ne {start : Nat} {r : Record} (h : r.segment ≠ g) : s.restored g start r = r :=
  if_neg fun hin => h hin.1

theorem State.restored_segment (s : State) (g start : Nat) (r : Record) : (s.restored g start r).segment = r.segment := by
  unfold State.restored
  split <;> rfl

theorem State.restored_of_inTest {start : Nat} {r : Record} (h : r.state.inTest = true) : s.restored g start r = r := by
  refine if_neg fun hin => ?_
  rcases hin.2 with hst | hst <;> rw [hst] at h <;> cases h

/-- A restore looks at what stands of the state, and a record's neighbours have no part in it. -/
theorem State.restored_congr (hclock : t.clock = s.clock) (hfigures : ∀ c, t.figures c = s.figures c) (start : Nat)
    (r : Record) (l : List Nat) :
    t.restored g start { r with neighbours := l } = { s.restored g start r with neighbours := l } := by
  have hnow : t.now = s.now := by rw [State.now, State.now, hclock]
  unfold State.restored
  simp only [State.restoreHold, hnow, hfigures]
  split <;> rfl

theorem State.voided_segment (s : State) (c : Channel) (r : Record) : (s.voided c r).segment = r.segment := by
  cases hstarted : c.started <;> simp [State.voided, State.judged, State.recharging, hstarted]

/-- The run goes on with the outage holds of a segment none of whose channels it has closed. -/
theorem State.VoidRun.outageHolds (run : s.VoidRun t closed held) {start : Nat}
    (hlawful : (t.outageHolds g start).Lawful)
    (hsegment : ∀ k r, closed k → s.record? (s.channelAt k).index = some r → r.segment ≠ g) :
    s.VoidRun (t.outageHolds g start) closed (fun r => s.restored g start (held r)) := by
  have hframe := t.outageHolds_frame g start
  have hrecord := State.outageHolds_record? run.lawful.canonical.1 g start
  have hamong : ∀ l, (t.outageHolds g start).enrolledAmong l = t.enrolledAmong l := fun l =>
    List.filter_congr fun n _ => by rw [hrecord, Option.isSome_map]
  have hchannels : ∀ k, (t.outageHolds g start).channelAt k = t.channelAt k := fun k => by rw [hframe]; rfl
  have hlink : (t.outageHolds g start).link = t.link := by rw [hframe]
  have hattention : (t.outageHolds g start).attention = t.attention := by rw [hframe]
  have hcause : ∀ c, (t.outageHolds g start).causeAt c = t.causeAt c := fun c => by rw [hframe]; rfl
  have hprogramme : (t.outageHolds g start).programme = t.programme := by rw [hframe]
  exact
    { lawful := hlawful
      bound := run.bound
      freed := fun k hk => (hchannels k).trans (run.freed k hk)
      left := fun k hk => (hchannels k).trans (run.left k hk)
      orders := fun o => by rw [hlink]; exact run.orders o
      sublist := by rw [hlink]; exact run.sublist
      link := by rw [hlink]; exact run.link
      clock := by rw [hframe]; exact run.clock
      figures := fun c => by rw [hframe]; exact run.figures c
      retired := fun k r hk hr hpending => by rw [hrecord, run.retired k r hk hr hpending]; rfl
      voided := fun k r hk hr hpending => by
        have hne : (s.voided (s.channelAt k) r).segment ≠ g := by
          rw [State.voided_segment]; exact hsegment k r hk hr
        rw [hrecord, run.voided k r hk hr hpending, Option.map_some, State.restored_congr run.clock run.figures,
          State.restored_of_ne hne, hamong]
      others := fun i r hr hother => by
        rw [hrecord, run.others i r hr hother, Option.map_some, State.restored_congr run.clock run.figures, hamong]
      free := fun i hi => by rw [hrecord, run.free i hi]; rfl
      inTest := fun r hin => by rw [run.inTest r hin, State.restored_of_inTest hin]
      ended := fun h => by rw [hprogramme, hcause]; exact run.ended h
      notEnded := fun h => by rw [hprogramme, hcause]; exact run.notEnded h
      causes := fun c hm hp => (hcause c).trans (run.causes c hm hp)
      frame := by
        rw [hframe]
        exact congrArg
          (fun x : State =>
            { x with luminaires := (t.outageHolds g start).luminaires, zones := (t.outageHolds g start).zones })
          run.frame }

end

/-! ### Segment after segment (R147) -/

/-- The word reports the loss of the mains of a segment. -/
def State.Loses (s : State) (m : SegMap) (g : Nat) : Prop :=
  g < 16 ∧ ¬m.getLsbD g = true ∧ (s.segmentAt g).mains ≠ .absent

/-- The word reports that a segment that was not PRESENT is. -/
def State.Gains (s : State) (m : SegMap) (g : Nat) : Prop :=
  g < 16 ∧ m.getLsbD g = true ∧ (s.segmentAt g).mains ≠ .present

/-- The channels closed once the segments below `n` have been looked at. -/
def State.MainsCloses (s : State) (m : SegMap) (n k : Nat) : Prop :=
  s.bound k = true ∧ ∃ r, s.record? (s.channelAt k).index = some r ∧ r.segment < n ∧ s.Loses m r.segment

/-- What the restores among the segments below `n` make of a record. -/
def State.heldBelow (s : State) (m : SegMap) (n : Nat) (r : Record) : Record :=
  if r.segment < n ∧ m.getLsbD r.segment = true ∧ (s.segmentAt r.segment).mains = .absent then
    s.restored r.segment ((s.segmentAt r.segment).outageStart.getD 0) r
  else r

/-- The state `t` once the segments below `n` have been looked at. -/
structure State.MainsStage (s t : State) (m : SegMap) (n : Nat) : Prop where
  run : s.VoidRun t (s.MainsCloses m n) (s.heldBelow m n)
  lost : ∀ g, g < n → s.Loses m g → (t.segmentAt g).mains = .absent ∧ (t.segmentAt g).outageStart = some s.now
  gained : ∀ g, g < n → s.Gains m g → (t.segmentAt g).mains = .present ∧ (t.segmentAt g).outageStart = none
  stands : ∀ g, ¬(g < n ∧ (s.Loses m g ∨ s.Gains m g)) →
    (t.segmentAt g).mains = (s.segmentAt g).mains ∧ (t.segmentAt g).outageStart = (s.segmentAt g).outageStart
  settings : ∀ g, (t.segmentAt g).enabled = (s.segmentAt g).enabled ∧ (t.segmentAt g).cap = (s.segmentAt g).cap
  map : ∀ g, t.attention.changeMap.getLsbD g = true
    ↔ s.attention.changeMap.getLsbD g = true ∨ (g < n ∧ (s.Loses m g ∨ s.Gains m g))

section
variable {s t : State} {m : SegMap} {n : Nat}

theorem State.MainsStage.zero (w : s.Lawful) (m : SegMap) : s.MainsStage s m 0 where
  run := by
    have hheld : s.heldBelow m 0 = id := funext fun r => if_neg fun h => Nat.not_lt_zero _ h.1
    rw [hheld]
    exact (State.VoidRun.refl w).congr fun k => ⟨False.elim, fun ⟨_, r, _, h, _⟩ => Nat.not_lt_zero _ h⟩
  lost := fun g hg => absurd hg (Nat.not_lt_zero g)
  gained := fun g hg => absurd hg (Nat.not_lt_zero g)
  stands := fun g _ => ⟨rfl, rfl⟩
  settings := fun g => ⟨rfl, rfl⟩
  map := fun g => by simp

theorem State.heldBelow_of_restored {r : Record}
    (h : r.segment < n ∧ m.getLsbD r.segment = true ∧ (s.segmentAt r.segment).mains = .absent)
    (hst : r.state = .ready ∨ r.state = .recharging) :
    s.heldBelow m n r
      = { r with
          state := .recharging
          hold := some (laterHold r.hold (s.restoreHold r ((s.segmentAt r.segment).outageStart.getD 0))) } :=
  (if_pos h).trans (if_pos ⟨rfl, hst⟩)

theorem State.heldBelow_of_not {r : Record}
    (h : ¬(r.segment < n ∧ m.getLsbD r.segment = true ∧ (s.segmentAt r.segment).mains = .absent
      ∧ (r.state = .ready ∨ r.state = .recharging))) : s.heldBelow m n r = r := by
  unfold State.heldBelow
  split
  next hin => exact if_neg fun hst => h ⟨hin.1, hin.2.1, hin.2.2, hst.2⟩
  · rfl

/-- The next segment makes no difference to the records unless it is restored. -/
theorem State.heldBelow_succ_of_not (h : ¬(m.getLsbD n = true ∧ (s.segmentAt n).mains = .absent)) :
    s.heldBelow m (n + 1) = s.heldBelow m n := by
  funext r
  unfold State.heldBelow
  by_cases hr : r.segment = n
  · rw [if_neg fun hin => h (hr ▸ hin.2), if_neg fun hin => h (hr ▸ hin.2)]
  · have hlt : r.segment < n + 1 ↔ r.segment < n := by omega
    simp only [hlt]

theorem State.heldBelow_succ_of_restored (h : m.getLsbD n = true ∧ (s.segmentAt n).mains = .absent) :
    s.heldBelow m (n + 1) = fun r => s.restored n ((s.segmentAt n).outageStart.getD 0) (s.heldBelow m n r) := by
  funext r
  unfold State.heldBelow
  by_cases hr : r.segment = n
  · rw [if_pos (by rw [hr]; exact ⟨Nat.lt_succ_self n, h⟩), if_neg (by omega), hr]
  · have hlt : r.segment < n + 1 ↔ r.segment < n := by omega
    simp only [hlt]
    refine (State.restored_of_ne ?_).symm
    split
    · rwa [State.restored_segment]
    · exact hr

theorem State.MainsCloses_succ_of_not (h : ¬s.Loses m n) (k : Nat) :
    s.MainsCloses m n k ↔ s.MainsCloses m (n + 1) k := by
  refine and_congr_right fun _ => exists_congr fun r => and_congr_right fun _ => ?_
  constructor
  · exact fun ⟨hlt, hl⟩ => ⟨Nat.lt_succ_of_lt hlt, hl⟩
  · exact fun ⟨hlt, hl⟩ => ⟨Nat.lt_of_le_of_ne (Nat.le_of_lt_succ hlt) fun he => h (he ▸ hl), hl⟩

theorem State.MainsCloses_succ_of_loses (h : s.Loses m n) (k : Nat) :
    s.MainsCloses m n k ∨ (s.bound k = true ∧ ∃ r, s.record? (s.channelAt k).index = some r ∧ r.segment = n)
      ↔ s.MainsCloses m (n + 1) k := by
  constructor
  · rintro (⟨hk, r, hr, hlt, hl⟩ | ⟨hk, r, hr, rfl⟩)
    · exact ⟨hk, r, hr, Nat.lt_succ_of_lt hlt, hl⟩
    · exact ⟨hk, r, hr, Nat.lt_succ_self _, h⟩
  · rintro ⟨hk, r, hr, hlt, hl⟩
    rcases Nat.lt_succ_iff_lt_or_eq.mp hlt with hlt | rfl
    · exact .inl ⟨hk, r, hr, hlt, hl⟩
    · exact .inr ⟨hk, r, hr, rfl⟩

/-! ### One segment -/

theorem State.mainsAt_of_unmoved
    (h : (s.segmentAt n).mains = .present ∧ m.getLsbD n = true ∨ (s.segmentAt n).mains = .absent ∧ ¬m.getLsbD n = true) :
    s.mainsAt m n = s := by
  unfold State.mainsAt marked
  rcases h with ⟨hmains, hm⟩ | ⟨hmains, hm⟩
  · rw [hmains, hm]
  · rw [hmains, Bool.not_eq_true _ |>.mp hm]

theorem State.mainsAt_of_unknown (h : (s.segmentAt n).mains = .unknown) (hm : m.getLsbD n = true) :
    s.mainsAt m n = s.mainsTransition n .present none := by
  unfold State.mainsAt marked
  rw [h, hm]

theorem State.mainsAt_of_absent (h : (s.segmentAt n).mains = .absent) (hm : m.getLsbD n = true) :
    s.mainsAt m n = s.restore n := by
  unfold State.mainsAt marked
  rw [h, hm]

theorem State.mainsAt_of_lost (h : (s.segmentAt n).mains ≠ .absent) (hm : ¬m.getLsbD n = true) :
    s.mainsAt m n = s.outageEntry n := by
  unfold State.mainsAt marked
  rw [Bool.not_eq_true _ |>.mp hm]
  cases hmains : (s.segmentAt n).mains with
  | absent => exact absurd hmains h
  | _ => rfl

/-- A segment that stays as reported makes no difference. -/
theorem State.MainsStage.succ_of_unmoved (st : s.MainsStage t m n) (hl : ¬s.Loses m n) (hg : ¬s.Gains m n) (hn : n < 16) :
    s.MainsStage t m (n + 1) := by
  have hheld : ¬(m.getLsbD n = true ∧ (s.segmentAt n).mains = .absent) := fun ⟨hm, hmains⟩ =>
    hg ⟨hn, hm, by rw [hmains]; exact Mains.noConfusion⟩
  have hlt {g : Nat} (hmoves : s.Loses m g ∨ s.Gains m g) : g < n + 1 ↔ g < n := by
    have hne : g ≠ n := fun he => (he ▸ hmoves).elim hl hg
    omega
  exact
    { run := by
        rw [State.heldBelow_succ_of_not hheld]
        exact st.run.congr (State.MainsCloses_succ_of_not hl)
      lost := fun g hgn h => st.lost g ((hlt (.inl h)).mp hgn) h
      gained := fun g hgn h => st.gained g ((hlt (.inr h)).mp hgn) h
      stands := fun g h => st.stands g fun ⟨hgn, hmoves⟩ => h ⟨(hlt hmoves).mpr hgn, hmoves⟩
      settings := st.settings
      map := fun g => (st.map g).trans (or_congr_right (and_congr_left fun h => (hlt h).symm)) }

/-- A segment that moves: its mains fields change and the map gains it, and the run has gone on. -/
theorem State.MainsStage.succ_of_moved {t' : State} {a : Mains} {o : Option Nat} (st : s.MainsStage t m n) (hn : n < 16)
    (hl : s.Loses m n → a = .absent ∧ o = some s.now) (hg : s.Gains m n → a = .present ∧ o = none)
    (hmoves : s.Loses m n ∨ s.Gains m n) (hmains : (t.mainsTransition n a o).SameMains t')
    (run : s.VoidRun t' (s.MainsCloses m (n + 1)) (s.heldBelow m (n + 1))) : s.MainsStage t' m (n + 1) := by
  obtain ⟨hsegments, hmap, -⟩ := hmains
  have hself : (t'.segmentAt n).mains = a ∧ (t'.segmentAt n).outageStart = o := by
    rw [hsegments n, State.mainsTransition_segmentAt, if_pos rfl]
    exact ⟨rfl, rfl⟩
  have hother {g : Nat} (hne : g ≠ n) : t'.segmentAt g = { t.segmentAt g with active := (t'.segmentAt g).active } :=
    (hsegments g).trans (by rw [State.mainsTransition_segmentAt, if_neg (Ne.symm hne)])
  have hlt {g : Nat} (hne : g ≠ n) : g < n + 1 ↔ g < n := by omega
  refine
    { run
      lost := fun g hgn h => ?_
      gained := fun g hgn h => ?_
      stands := fun g h => ?_
      settings := fun g => ?_
      map := fun g => ?_ }
  · by_cases hne : g = n
    · subst hne
      rw [hself.1, hself.2]
      exact hl h
    · rw [hother hne]
      exact st.lost g ((hlt hne).mp hgn) h
  · by_cases hne : g = n
    · subst hne
      rw [hself.1, hself.2]
      exact hg h
    · rw [hother hne]
      exact st.gained g ((hlt hne).mp hgn) h
  · have hne : g ≠ n := fun he => h ⟨by omega, he ▸ hmoves⟩
    rw [hother hne]
    exact st.stands g fun ⟨hgn, hmoves⟩ => h ⟨(hlt hne).mpr hgn, hmoves⟩
  · by_cases hne : g = n
    · subst hne
      rw [hsegments g, State.mainsTransition_segmentAt, if_pos rfl]
      exact st.settings g
    · rw [hother hne]
      exact st.settings g
  · rw [hmap, State.mainsTransition_changeMap t hn, st.map, or_assoc]
    refine or_congr_right ?_
    by_cases hne : g = n
    · subst hne
      simp [hmoves]
    · rw [hlt hne]
      simp [hne]

/-- A restore changes no segment but by its transition. -/
theorem State.SameMains.restore (t : State) (g : Nat) : (t.mainsTransition g .present none).SameMains (t.restore g) := by
  have hframe : t.restore g = _ := (t.mainsTransition g .present none).outageHolds_frame g ((t.segmentAt g).outageStart.getD 0)
  rw [hframe]
  exact ⟨fun _ => rfl, rfl, rfl⟩

/-- The closes of an outage entry change no segment but its active count. -/
theorem State.SameMains.outageEntry {g : Nat} (hlawful : (t.mainsTransition g .absent (some t.now)).Lawful) :
    (t.mainsTransition g .absent (some t.now)).SameMains (t.outageEntry g) := by
  refine (foldl_keeps (P := fun u => u.Lawful ∧ (t.mainsTransition g .absent (some t.now)).SameMains u)
    (fun u k ⟨hu, hsame⟩ => ⟨lawful_outageAt hu g k, ?_⟩) allChannels ⟨hlawful, .refl _⟩).2
  unfold State.outageAt
  split
  next hon => exact hsame.closeVoid hu (Bool.and_eq_true_iff.mp hon).1
  · exact hsame

/-- An outage entry closes the channels still bound on the segment. -/
theorem State.VoidRun.outageEntry {closed : Nat → Prop} {held : Record → Record} {g : Nat} (w : s.Lawful)
    (run : s.VoidRun (t.mainsTransition g .absent (some t.now)) closed held) :
    s.VoidRun (t.outageEntry g)
      (fun k => closed k ∨ (s.bound k = true ∧ ∃ r, s.record? (s.channelAt k).index = some r ∧ r.segment = g)) held := by
  have hon {u : State} {closed : Nat → Prop} {k : Nat} (hrun : s.VoidRun u closed held) (hk : u.bound k = true) :
      u.onSegment k g = true ↔ ∃ r, s.record? (s.channelAt k).index = some r ∧ r.segment = g :=
    State.onSegment_iff.trans (hrun.segment_iff w hk (· = g))
  refine (run.foldl w (f := State.outageAt g)
    (Q := fun k => ∃ r, s.record? (s.channelAt k).index = some r ∧ r.segment = g)
    (fun k hrun hk hq => if_pos (Bool.and_eq_true_iff.mpr ⟨hk, (hon hrun hk).mpr hq⟩))
    (fun k hrun hnot => if_neg fun hcond => ?_) allChannels).congr fun k => ?_
  · obtain ⟨hk, hseg⟩ := Bool.and_eq_true_iff.mp hcond
    exact hnot ⟨hk, (hon hrun hk).mp hseg⟩
  · refine or_congr_right ⟨And.right, fun h => ⟨mem_allChannels.mpr (bound_lt w.queue.1 h.1), h⟩⟩

/-- The next segment. -/
theorem State.MainsStage.succ (w : s.Lawful) (st : s.MainsStage t m n) (hn : n < 16) :
    s.MainsStage (t.mainsAt m n) m (n + 1) := by
  obtain ⟨hmains, hstart⟩ := st.stands n fun h => (Nat.lt_irrefl n h.1)
  have hnow : t.now = s.now := by rw [State.now, State.now, st.run.clock]
  by_cases hm : m.getLsbD n = true
  · have hl : ¬s.Loses m n := fun h => h.2.1 hm
    cases hwas : (s.segmentAt n).mains with
    | present =>
      rw [State.mainsAt_of_unmoved (.inl ⟨hmains.trans hwas, hm⟩)]
      exact st.succ_of_unmoved hl (fun h => h.2.2 hwas) hn
    | unknown =>
      rw [State.mainsAt_of_unknown (hmains.trans hwas) hm]
      refine st.succ_of_moved hn (fun h => absurd h hl) (fun _ => ⟨rfl, rfl⟩) (.inr ⟨hn, hm,
        by rw [hwas]; exact Mains.noConfusion⟩)
        (.refl _) ?_
      rw [State.heldBelow_succ_of_not fun h => by rw [hwas] at h; cases h.2]
      exact (st.run.mainsTransition (lawful_mainsTransition st.run.lawful hn
        (o := none) (iff_of_false Bool.false_ne_true Mains.noConfusion) minuteInRange_none)).congr (State.MainsCloses_succ_of_not hl)
    | absent =>
      rw [State.mainsAt_of_absent (hmains.trans hwas) hm]
      refine st.succ_of_moved hn (fun h => absurd h hl) (fun _ => ⟨rfl, rfl⟩)
        (.inr ⟨hn, hm, by rw [hwas]; exact Mains.noConfusion⟩) (State.SameMains.restore t n) ?_
      rw [State.heldBelow_succ_of_restored ⟨hm, hwas⟩, ← hstart]
      have hentry : (t.mainsTransition n .present none).Lawful := lawful_mainsTransition st.run.lawful hn
        (iff_of_false Bool.false_ne_true Mains.noConfusion) minuteInRange_none
      refine ((st.run.mainsTransition hentry).outageHolds (lawful_restore st.run.lawful hn) fun k r hk hr => ?_).congr
        (State.MainsCloses_succ_of_not hl)
      obtain ⟨-, r', hr', hlt, -⟩ := hk
      cases hr.symm.trans hr'
      exact hlt.ne
  · have hg : ¬s.Gains m n := fun h => hm h.2.1
    by_cases hwas : (s.segmentAt n).mains = .absent
    · rw [State.mainsAt_of_unmoved (.inr ⟨hmains.trans hwas, hm⟩)]
      exact st.succ_of_unmoved (fun h => h.2.2 hwas) hg hn
    · rw [State.mainsAt_of_lost (by rw [hmains]; exact hwas) hm]
      have hlost : s.Loses m n := ⟨hn, hm, hwas⟩
      have hentry : (t.mainsTransition n .absent (some t.now)).Lawful :=
        lawful_mainsTransition st.run.lawful hn (iff_of_true rfl rfl) (minuteInRange_some (now_le st.run.lawful))
      refine st.succ_of_moved hn (fun _ => ⟨rfl, congrArg some hnow⟩) (fun h => absurd h hg) (.inl hlost)
        (State.SameMains.outageEntry hentry) ?_
      rw [State.heldBelow_succ_of_not fun h => hm h.1]
      exact ((st.run.mainsTransition hentry).outageEntry w).congr (State.MainsCloses_succ_of_loses hlost)

/-- The whole word. -/
theorem State.mainsStage_applyMains (w : s.Lawful) (m : SegMap) : s.MainsStage (s.applyMains m) m 16 := by
  have hstages : ∀ n ≤ 16, s.MainsStage ((List.range n).foldl (State.mainsAt m) s) m n := fun n => by
    induction n with
    | zero => exact fun _ => State.MainsStage.zero w m
    | succ n ih =>
      intro hn
      rw [List.range_succ, List.foldl_append]
      exact (ih (Nat.le_of_succ_le hn)).succ w hn
  exact hstages 16 le_rfl

/-! ### The take (R143) -/

theorem ne_zero_iff_getLsbD (m : SegMap) : m ≠ 0 ↔ ∃ g, m.getLsbD g = true := by
  refine ⟨fun hne => by_contra fun hnone => hne ?_, fun ⟨g, hg⟩ he => ?_⟩
  · rw [not_exists] at hnone
    exact BitVec.eq_of_getLsbD_eq fun g _ => by simpa using hnone g
  · rw [he] at hg
    simp at hg

theorem State.takeMains_of_word {word : BoxWord} (hbox : s.link.mainsBox = some word) :
    s.takeMains
      = if boxWordPasses s.link.sense word then
          ({ s with link := { s.link with mainsBox := none } } : State).applyMains (mapOf word)
        else ({ s with link := { s.link with mainsBox := none } } : State).raise .linkCheck 0 := by
  unfold State.takeMains
  split
  next hnone => rw [hnone] at hbox; cases hbox
  next word' hword =>
    cases hbox.symm.trans hword
    rfl

theorem State.takeMains_of_none (hbox : s.link.mainsBox = none) : s.takeMains = s := by
  unfold State.takeMains
  split
  · rfl
  next hword => rw [hword] at hbox; cases hbox

/-- An outage entry, its closes written out (R148). -/
theorem State.outageEntry_eq (s : State) (g : Nat) :
    s.outageEntry g
      = (List.range 32).foldl
        (fun t k =>
          if t.bound k = true ∧ t.onSegment k g = true then
            t.close k .void (some (if (t.channelAt k).started = true then .afterStart else .beforeStart))
          else t)
        (s.mainsTransition g .absent (some s.now)) := by
  refine List.foldl_ext _ _ _ fun t k _ => ?_
  unfold State.outageAt
  simp only [Bool.and_eq_true]
  rfl

end

end Sys2Proof.Machine

open Sys2Proof Sys2Proof.Machine

/-- Settles O38: the word is applied segment after segment (`State.mainsStage_applyMains`), and the last stage gives
each clause. -/
theorem mainsWordTake : Obligations.MainsWordTake := by
  refine ⟨fun s hcalm => ?_, fun s m => ⟨rfl, fun g => ?_⟩⟩
  · have hexec : exec .mainsWordTake s = .next s.takeMains := exec_event_calm (c := .mainsWordTake) rfl hcalm
    refine ⟨fun hnone => ?_, fun w hbox => ?_⟩
    · rw [Idles, hexec, State.takeMains_of_none hnone]
    intro u reported lost gained closed ended
    rw [State.takeMains_of_word hbox] at hexec
    refine ⟨fun hfails => ?_, fun hpasses => ?_, fun hpasses hlaw => ?_⟩
    · rw [hexec, hfails]
      rfl
    · rw [hexec, hpasses]
      rfl
    have hu : u.Lawful := lawful_setBoxes hlaw s.link.haltBox none
    rw [if_pos hpasses] at hexec
    have st := State.mainsStage_applyMains hu (mapOf w)
    change exec .mainsWordTake s = .next (u.applyMains (mapOf w)) at hexec
    generalize u.applyMains (mapOf w) = t at st hexec
    have run := st.run
    have hclosed : ∀ {k r}, closed k r → u.MainsCloses (mapOf w) 16 k := fun ⟨hk, hr, hl⟩ => ⟨hk, _, hr, hl.1, hl⟩
    have hopen : ∀ {k}, (∀ r, ¬closed k r) → ¬u.MainsCloses (mapOf w) 16 k := fun h ⟨hk, r, hr, _, hl⟩ => h r ⟨hk, hr, hl⟩
    have hclosedOf : ∀ {k r}, u.MainsCloses (mapOf w) 16 k → s.record? (s.channelAt k).index = some r → closed k r :=
      fun ⟨hk, r', hr', _, hl⟩ hr => ⟨hk, hr, Option.some.inj (hr'.symm.trans hr) ▸ hl⟩
    have hmoves : ∀ g, g < 16 ∧ (u.Loses (mapOf w) g ∨ u.Gains (mapOf w) g) ↔ lost g ∨ gained g := fun g =>
      and_iff_right_of_imp fun h => h.elim And.left And.left
    have hended : ended ↔ u.programme.state = .halting ∧ (∃ k, u.MainsCloses (mapOf w) 16 k)
        ∧ ∀ k, u.bound k = true → u.MainsCloses (mapOf w) 16 k := by
      refine and_congr_right fun hhalting => ⟨fun hall => ⟨?_, fun k hk => ?_⟩, fun ⟨_, hall⟩ k hk => ?_⟩
      · obtain ⟨k, hk⟩ := List.exists_mem_of_length_pos (hu.programme.2.1 hhalting)
        obtain ⟨r, hr⟩ := hall k (List.mem_filter.mp hk).2
        exact ⟨k, hclosed hr⟩
      · obtain ⟨r, hr⟩ := hall k hk
        exact hclosed hr
      · obtain ⟨hk', r, hr, -, hl⟩ := hall k hk
        exact ⟨r, hk', hr, hl⟩
    refine ⟨t, hexec, fun g => ⟨fun h => ?_, fun h => st.gained g h.1 h, fun hl hg => ?_, fun hl => ?_, (st.settings g).1,
      (st.settings g).2, (st.map g).trans (or_congr_right (hmoves g))⟩, ?_, fun k r h => run.freed k (hclosed h),
      fun k h => run.left k (hopen h), fun o => ?_, run.sublist, fun k r h => run.retired k r (hclosed h) h.2.1,
      fun k r h => run.voided k r (hclosed h) h.2.1, fun i r hr hother => ?_, run.free, fun h => run.ended (hended.mp h),
      fun h => run.notEnded (mt hended.mpr h), run.causes, run.link, run.frame⟩
    · obtain ⟨hmains, hstart⟩ := st.lost g h.1 h
      exact ⟨hmains, hstart, run.active_eq_zero hu fun k r hk hr hg => ⟨hk, r, hr, hg ▸ h.1, hg ▸ h⟩⟩
    · exact st.stands g fun h => h.2.elim hl hg
    · exact run.active_eq hu fun k r hk hr hg => hl (hg ▸ (hclosedOf hk hr).2.2)
    · obtain ⟨-, hpending, -⟩ := run.lawful.attention
      obtain ⟨-, hpending', -⟩ := hlaw.attention
      rw [hpending, hpending', ne_zero_iff_getLsbD, ne_zero_iff_getLsbD, ← exists_or]
      exact exists_congr fun g => (st.map g).trans (or_congr_right (hmoves g))
    · refine (run.orders o).trans (and_congr_right fun _ => ⟨fun h r hr => h (hclosed hr), hopen⟩)
    · have hheld := run.others i r hr fun k hk he => hother k (hclosedOf hk (he.symm ▸ hr)) he
      intro held restored
      refine ⟨fun ⟨hg, habsent, hst⟩ => ?_, fun hnot => ?_⟩
      · rw [hheld, State.heldBelow_of_restored (s := u) ⟨hg.1, hg.2.1, habsent⟩ hst]
        rfl
      · rw [hheld, State.heldBelow_of_not (s := u) fun ⟨hlt, hbit, habsent, hst⟩ => hnot
          ⟨⟨hlt, hbit, fun hpresent => by cases habsent.symm.trans hpresent⟩, habsent, hst⟩]
  · intro reported moved
    exact ⟨fun h hm => State.mainsAt_of_unmoved (.inl ⟨h, hm⟩), fun h hm => State.mainsAt_of_unmoved (.inr ⟨h, hm⟩),
      State.mainsAt_of_unknown, State.mainsAt_of_absent, fun h hm => (State.mainsAt_of_lost h hm).trans (s.outageEntry_eq g)⟩

end
